-- ==== Sys2Proof/Word.lean ====
section
/-! DEFINITION. The two word types of the hardware (00_scope.md rules R6 and R8): the byte that every bus transfer and
every general register carries, and the 16-bit word of the register pairs, SP, PC and the address bus. -/

namespace Sys2Proof

/-- An 8-bit unsigned value, the spec's `u8` (R6, R8). -/
abbrev Byte := BitVec 8

/-- A 16-bit unsigned value, the spec's `u16`: a register pair, SP, PC or a bus address (R6, R8). -/
abbrev Word := BitVec 16

/-- `hi ++ lo` of R8: the 16-bit value `hi*256 + lo`. -/
abbrev Word.ofBytes (hi lo : Byte) : Word := hi ++ lo

/-- `v[15:8]` of R8. -/
abbrev Word.hiByte (v : Word) : Byte := v.extractLsb' 8 8

/-- `v[7:0]` of R8. -/
abbrev Word.loByte (v : Word) : Byte := v.extractLsb' 0 8

end Sys2Proof
end

