-- ==== Sys2Proof/Syntax.lean ====
section
/-! DEFINITION. The instructions: ONE inductive with one constructor for each of the 512 rows of spec/opcode_table.json,
first the rows with an immediate, then the others, each in the table's order (the 256 base opcodes, then the 256 second
bytes behind the prefix 0xCB). A constructor is named
after its row's mnemonic: a memory operand `[HL]` is written `atHL`, `[HL+]` is `atHLi`, `[HL-]` is `atHLd`, `[n16]` is
`atN16`, `[a8]` is `atA8`, the LDH operand `[C]` is `atC`. Its arguments are the immediates of 30_encoding.md rule R63;
register operands, condition codes and bit indices are fixed by the constructor, as they are fixed by the row. The 11
rows `(illegal)` are one constructor each, named after the byte. -/

namespace Sys2Proof

/-- The instruction set of 30_encoding.md rules R64 to R69; the comment of a constructor gives its bytes and its rule. -/
inductive Instr where
  | ld_BC_n16 (n16 : Word) -- 01 lo hi, R74
  | ld_B_n8 (n8 : Byte) -- 06 n8, R73
  | ld_atN16_SP (n16 : Word) -- 08 lo hi, R85
  | ld_C_n8 (n8 : Byte) -- 0E n8, R73
  | stop (x : Byte) -- 10 x, R139
  | ld_DE_n16 (n16 : Word) -- 11 lo hi, R74
  | ld_D_n8 (n8 : Byte) -- 16 n8, R73
  | jr_e8 (e8 : Byte) -- 18 e8, R128
  | ld_E_n8 (n8 : Byte) -- 1E n8, R73
  | jr_NZ_e8 (e8 : Byte) -- 20 e8, R129
  | ld_HL_n16 (n16 : Word) -- 21 lo hi, R74
  | ld_H_n8 (n8 : Byte) -- 26 n8, R73
  | jr_Z_e8 (e8 : Byte) -- 28 e8, R129
  | ld_L_n8 (n8 : Byte) -- 2E n8, R73
  | jr_NC_e8 (e8 : Byte) -- 30 e8, R129
  | ld_SP_n16 (n16 : Word) -- 31 lo hi, R74
  | ld_atHL_n8 (n8 : Byte) -- 36 n8, R73
  | jr_C_e8 (e8 : Byte) -- 38 e8, R129
  | ld_A_n8 (n8 : Byte) -- 3E n8, R73
  | jp_NZ_n16 (n16 : Word) -- C2 lo hi, R126
  | jp_n16 (n16 : Word) -- C3 lo hi, R125
  | call_NZ_n16 (n16 : Word) -- C4 lo hi, R131
  | add_A_n8 (n8 : Byte) -- C6 n8, R91
  | jp_Z_n16 (n16 : Word) -- CA lo hi, R126
  | prefix_CB (s : Byte) -- CB s, R142
  | call_Z_n16 (n16 : Word) -- CC lo hi, R131
  | call_n16 (n16 : Word) -- CD lo hi, R130
  | adc_A_n8 (n8 : Byte) -- CE n8, R92
  | jp_NC_n16 (n16 : Word) -- D2 lo hi, R126
  | call_NC_n16 (n16 : Word) -- D4 lo hi, R131
  | sub_A_n8 (n8 : Byte) -- D6 n8, R93
  | jp_C_n16 (n16 : Word) -- DA lo hi, R126
  | call_C_n16 (n16 : Word) -- DC lo hi, R131
  | sbc_A_n8 (n8 : Byte) -- DE n8, R94
  | ldh_atA8_A (a8 : Byte) -- E0 a8, R81
  | and_A_n8 (n8 : Byte) -- E6 n8, R95
  | add_SP_e8 (e8 : Byte) -- E8 e8, R108
  | ld_atN16_A (n16 : Word) -- EA lo hi, R79
  | xor_A_n8 (n8 : Byte) -- EE n8, R96
  | ldh_A_atA8 (a8 : Byte) -- F0 a8, R82
  | or_A_n8 (n8 : Byte) -- F6 n8, R97
  | ld_HL_SPe8 (e8 : Byte) -- F8 e8, R109
  | ld_A_atN16 (n16 : Word) -- FA lo hi, R80
  | cp_A_n8 (n8 : Byte) -- FE n8, R98
  | nop -- 00, R137
  | ld_atBC_A -- 02, R75
  | inc_BC -- 03, R105
  | inc_B -- 04, R99
  | dec_B -- 05, R100
  | rlca -- 07, R110
  | add_HL_BC -- 09, R107
  | ld_A_atBC -- 0A, R77
  | dec_BC -- 0B, R106
  | inc_C -- 0C, R99
  | dec_C -- 0D, R100
  | rrca -- 0F, R111
  | ld_atDE_A -- 12, R75
  | inc_DE -- 13, R105
  | inc_D -- 14, R99
  | dec_D -- 15, R100
  | rla -- 17, R112
  | add_HL_DE -- 19, R107
  | ld_A_atDE -- 1A, R77
  | dec_DE -- 1B, R106
  | inc_E -- 1C, R99
  | dec_E -- 1D, R100
  | rra -- 1F, R113
  | ld_atHLi_A -- 22, R76
  | inc_HL -- 23, R105
  | inc_H -- 24, R99
  | dec_H -- 25, R100
  | daa -- 27, R101
  | add_HL_HL -- 29, R107
  | ld_A_atHLi -- 2A, R78
  | dec_HL -- 2B, R106
  | inc_L -- 2C, R99
  | dec_L -- 2D, R100
  | cpl -- 2F, R102
  | ld_atHLd_A -- 32, R76
  | inc_SP -- 33, R105
  | inc_atHL -- 34, R99
  | dec_atHL -- 35, R100
  | scf -- 37, R103
  | add_HL_SP -- 39, R107
  | ld_A_atHLd -- 3A, R78
  | dec_SP -- 3B, R106
  | inc_A -- 3C, R99
  | dec_A -- 3D, R100
  | ccf -- 3F, R104
  | ld_B_B -- 40, R72
  | ld_B_C -- 41, R72
  | ld_B_D -- 42, R72
  | ld_B_E -- 43, R72
  | ld_B_H -- 44, R72
  | ld_B_L -- 45, R72
  | ld_B_atHL -- 46, R72
  | ld_B_A -- 47, R72
  | ld_C_B -- 48, R72
  | ld_C_C -- 49, R72
  | ld_C_D -- 4A, R72
  | ld_C_E -- 4B, R72
  | ld_C_H -- 4C, R72
  | ld_C_L -- 4D, R72
  | ld_C_atHL -- 4E, R72
  | ld_C_A -- 4F, R72
  | ld_D_B -- 50, R72
  | ld_D_C -- 51, R72
  | ld_D_D -- 52, R72
  | ld_D_E -- 53, R72
  | ld_D_H -- 54, R72
  | ld_D_L -- 55, R72
  | ld_D_atHL -- 56, R72
  | ld_D_A -- 57, R72
  | ld_E_B -- 58, R72
  | ld_E_C -- 59, R72
  | ld_E_D -- 5A, R72
  | ld_E_E -- 5B, R72
  | ld_E_H -- 5C, R72
  | ld_E_L -- 5D, R72
  | ld_E_atHL -- 5E, R72
  | ld_E_A -- 5F, R72
  | ld_H_B -- 60, R72
  | ld_H_C -- 61, R72
  | ld_H_D -- 62, R72
  | ld_H_E -- 63, R72
  | ld_H_H -- 64, R72
  | ld_H_L -- 65, R72
  | ld_H_atHL -- 66, R72
  | ld_H_A -- 67, R72
  | ld_L_B -- 68, R72
  | ld_L_C -- 69, R72
  | ld_L_D -- 6A, R72
  | ld_L_E -- 6B, R72
  | ld_L_H -- 6C, R72
  | ld_L_L -- 6D, R72
  | ld_L_atHL -- 6E, R72
  | ld_L_A -- 6F, R72
  | ld_atHL_B -- 70, R72
  | ld_atHL_C -- 71, R72
  | ld_atHL_D -- 72, R72
  | ld_atHL_E -- 73, R72
  | ld_atHL_H -- 74, R72
  | ld_atHL_L -- 75, R72
  | halt -- 76, R138
  | ld_atHL_A -- 77, R72
  | ld_A_B -- 78, R72
  | ld_A_C -- 79, R72
  | ld_A_D -- 7A, R72
  | ld_A_E -- 7B, R72
  | ld_A_H -- 7C, R72
  | ld_A_L -- 7D, R72
  | ld_A_atHL -- 7E, R72
  | ld_A_A -- 7F, R72
  | add_A_B -- 80, R91
  | add_A_C -- 81, R91
  | add_A_D -- 82, R91
  | add_A_E -- 83, R91
  | add_A_H -- 84, R91
  | add_A_L -- 85, R91
  | add_A_atHL -- 86, R91
  | add_A_A -- 87, R91
  | adc_A_B -- 88, R92
  | adc_A_C -- 89, R92
  | adc_A_D -- 8A, R92
  | adc_A_E -- 8B, R92
  | adc_A_H -- 8C, R92
  | adc_A_L -- 8D, R92
  | adc_A_atHL -- 8E, R92
  | adc_A_A -- 8F, R92
  | sub_A_B -- 90, R93
  | sub_A_C -- 91, R93
  | sub_A_D -- 92, R93
  | sub_A_E -- 93, R93
  | sub_A_H -- 94, R93
  | sub_A_L -- 95, R93
  | sub_A_atHL -- 96, R93
  | sub_A_A -- 97, R93
  | sbc_A_B -- 98, R94
  | sbc_A_C -- 99, R94
  | sbc_A_D -- 9A, R94
  | sbc_A_E -- 9B, R94
  | sbc_A_H -- 9C, R94
  | sbc_A_L -- 9D, R94
  | sbc_A_atHL -- 9E, R94
  | sbc_A_A -- 9F, R94
  | and_A_B -- A0, R95
  | and_A_C -- A1, R95
  | and_A_D -- A2, R95
  | and_A_E -- A3, R95
  | and_A_H -- A4, R95
  | and_A_L -- A5, R95
  | and_A_atHL -- A6, R95
  | and_A_A -- A7, R95
  | xor_A_B -- A8, R96
  | xor_A_C -- A9, R96
  | xor_A_D -- AA, R96
  | xor_A_E -- AB, R96
  | xor_A_H -- AC, R96
  | xor_A_L -- AD, R96
  | xor_A_atHL -- AE, R96
  | xor_A_A -- AF, R96
  | or_A_B -- B0, R97
  | or_A_C -- B1, R97
  | or_A_D -- B2, R97
  | or_A_E -- B3, R97
  | or_A_H -- B4, R97
  | or_A_L -- B5, R97
  | or_A_atHL -- B6, R97
  | or_A_A -- B7, R97
  | cp_A_B -- B8, R98
  | cp_A_C -- B9, R98
  | cp_A_D -- BA, R98
  | cp_A_E -- BB, R98
  | cp_A_H -- BC, R98
  | cp_A_L -- BD, R98
  | cp_A_atHL -- BE, R98
  | cp_A_A -- BF, R98
  | ret_NZ -- C0, R133
  | pop_BC -- C1, R88
  | push_BC -- C5, R87
  | rst_00 -- C7, R135
  | ret_Z -- C8, R133
  | ret -- C9, R132
  | rst_08 -- CF, R135
  | ret_NC -- D0, R133
  | pop_DE -- D1, R88
  | illegal_D3 -- D3, R143
  | push_DE -- D5, R87
  | rst_10 -- D7, R135
  | ret_C -- D8, R133
  | reti -- D9, R134
  | illegal_DB -- DB, R143
  | illegal_DD -- DD, R143
  | rst_18 -- DF, R135
  | pop_HL -- E1, R88
  | ldh_atC_A -- E2, R83
  | illegal_E3 -- E3, R143
  | illegal_E4 -- E4, R143
  | push_HL -- E5, R87
  | rst_20 -- E7, R135
  | jp_HL -- E9, R127
  | illegal_EB -- EB, R143
  | illegal_EC -- EC, R143
  | illegal_ED -- ED, R143
  | rst_28 -- EF, R135
  | pop_AF -- F1, R88
  | ldh_A_atC -- F2, R84
  | di -- F3, R140
  | illegal_F4 -- F4, R143
  | push_AF -- F5, R87
  | rst_30 -- F7, R135
  | ld_SP_HL -- F9, R86
  | ei -- FB, R141
  | illegal_FC -- FC, R143
  | illegal_FD -- FD, R143
  | rst_38 -- FF, R135
  | rlc_B -- CB 00, R114
  | rlc_C -- CB 01, R114
  | rlc_D -- CB 02, R114
  | rlc_E -- CB 03, R114
  | rlc_H -- CB 04, R114
  | rlc_L -- CB 05, R114
  | rlc_atHL -- CB 06, R114
  | rlc_A -- CB 07, R114
  | rrc_B -- CB 08, R115
  | rrc_C -- CB 09, R115
  | rrc_D -- CB 0A, R115
  | rrc_E -- CB 0B, R115
  | rrc_H -- CB 0C, R115
  | rrc_L -- CB 0D, R115
  | rrc_atHL -- CB 0E, R115
  | rrc_A -- CB 0F, R115
  | rl_B -- CB 10, R116
  | rl_C -- CB 11, R116
  | rl_D -- CB 12, R116
  | rl_E -- CB 13, R116
  | rl_H -- CB 14, R116
  | rl_L -- CB 15, R116
  | rl_atHL -- CB 16, R116
  | rl_A -- CB 17, R116
  | rr_B -- CB 18, R117
  | rr_C -- CB 19, R117
  | rr_D -- CB 1A, R117
  | rr_E -- CB 1B, R117
  | rr_H -- CB 1C, R117
  | rr_L -- CB 1D, R117
  | rr_atHL -- CB 1E, R117
  | rr_A -- CB 1F, R117
  | sla_B -- CB 20, R118
  | sla_C -- CB 21, R118
  | sla_D -- CB 22, R118
  | sla_E -- CB 23, R118
  | sla_H -- CB 24, R118
  | sla_L -- CB 25, R118
  | sla_atHL -- CB 26, R118
  | sla_A -- CB 27, R118
  | sra_B -- CB 28, R119
  | sra_C -- CB 29, R119
  | sra_D -- CB 2A, R119
  | sra_E -- CB 2B, R119
  | sra_H -- CB 2C, R119
  | sra_L -- CB 2D, R119
  | sra_atHL -- CB 2E, R119
  | sra_A -- CB 2F, R119
  | swap_B -- CB 30, R120
  | swap_C -- CB 31, R120
  | swap_D -- CB 32, R120
  | swap_E -- CB 33, R120
  | swap_H -- CB 34, R120
  | swap_L -- CB 35, R120
  | swap_atHL -- CB 36, R120
  | swap_A -- CB 37, R120
  | srl_B -- CB 38, R121
  | srl_C -- CB 39, R121
  | srl_D -- CB 3A, R121
  | srl_E -- CB 3B, R121
  | srl_H -- CB 3C, R121
  | srl_L -- CB 3D, R121
  | srl_atHL -- CB 3E, R121
  | srl_A -- CB 3F, R121
  | bit_0_B -- CB 40, R122
  | bit_0_C -- CB 41, R122
  | bit_0_D -- CB 42, R122
  | bit_0_E -- CB 43, R122
  | bit_0_H -- CB 44, R122
  | bit_0_L -- CB 45, R122
  | bit_0_atHL -- CB 46, R122
  | bit_0_A -- CB 47, R122
  | bit_1_B -- CB 48, R122
  | bit_1_C -- CB 49, R122
  | bit_1_D -- CB 4A, R122
  | bit_1_E -- CB 4B, R122
  | bit_1_H -- CB 4C, R122
  | bit_1_L -- CB 4D, R122
  | bit_1_atHL -- CB 4E, R122
  | bit_1_A -- CB 4F, R122
  | bit_2_B -- CB 50, R122
  | bit_2_C -- CB 51, R122
  | bit_2_D -- CB 52, R122
  | bit_2_E -- CB 53, R122
  | bit_2_H -- CB 54, R122
  | bit_2_L -- CB 55, R122
  | bit_2_atHL -- CB 56, R122
  | bit_2_A -- CB 57, R122
  | bit_3_B -- CB 58, R122
  | bit_3_C -- CB 59, R122
  | bit_3_D -- CB 5A, R122
  | bit_3_E -- CB 5B, R122
  | bit_3_H -- CB 5C, R122
  | bit_3_L -- CB 5D, R122
  | bit_3_atHL -- CB 5E, R122
  | bit_3_A -- CB 5F, R122
  | bit_4_B -- CB 60, R122
  | bit_4_C -- CB 61, R122
  | bit_4_D -- CB 62, R122
  | bit_4_E -- CB 63, R122
  | bit_4_H -- CB 64, R122
  | bit_4_L -- CB 65, R122
  | bit_4_atHL -- CB 66, R122
  | bit_4_A -- CB 67, R122
  | bit_5_B -- CB 68, R122
  | bit_5_C -- CB 69, R122
  | bit_5_D -- CB 6A, R122
  | bit_5_E -- CB 6B, R122
  | bit_5_H -- CB 6C, R122
  | bit_5_L -- CB 6D, R122
  | bit_5_atHL -- CB 6E, R122
  | bit_5_A -- CB 6F, R122
  | bit_6_B -- CB 70, R122
  | bit_6_C -- CB 71, R122
  | bit_6_D -- CB 72, R122
  | bit_6_E -- CB 73, R122
  | bit_6_H -- CB 74, R122
  | bit_6_L -- CB 75, R122
  | bit_6_atHL -- CB 76, R122
  | bit_6_A -- CB 77, R122
  | bit_7_B -- CB 78, R122
  | bit_7_C -- CB 79, R122
  | bit_7_D -- CB 7A, R122
  | bit_7_E -- CB 7B, R122
  | bit_7_H -- CB 7C, R122
  | bit_7_L -- CB 7D, R122
  | bit_7_atHL -- CB 7E, R122
  | bit_7_A -- CB 7F, R122
  | res_0_B -- CB 80, R123
  | res_0_C -- CB 81, R123
  | res_0_D -- CB 82, R123
  | res_0_E -- CB 83, R123
  | res_0_H -- CB 84, R123
  | res_0_L -- CB 85, R123
  | res_0_atHL -- CB 86, R123
  | res_0_A -- CB 87, R123
  | res_1_B -- CB 88, R123
  | res_1_C -- CB 89, R123
  | res_1_D -- CB 8A, R123
  | res_1_E -- CB 8B, R123
  | res_1_H -- CB 8C, R123
  | res_1_L -- CB 8D, R123
  | res_1_atHL -- CB 8E, R123
  | res_1_A -- CB 8F, R123
  | res_2_B -- CB 90, R123
  | res_2_C -- CB 91, R123
  | res_2_D -- CB 92, R123
  | res_2_E -- CB 93, R123
  | res_2_H -- CB 94, R123
  | res_2_L -- CB 95, R123
  | res_2_atHL -- CB 96, R123
  | res_2_A -- CB 97, R123
  | res_3_B -- CB 98, R123
  | res_3_C -- CB 99, R123
  | res_3_D -- CB 9A, R123
  | res_3_E -- CB 9B, R123
  | res_3_H -- CB 9C, R123
  | res_3_L -- CB 9D, R123
  | res_3_atHL -- CB 9E, R123
  | res_3_A -- CB 9F, R123
  | res_4_B -- CB A0, R123
  | res_4_C -- CB A1, R123
  | res_4_D -- CB A2, R123
  | res_4_E -- CB A3, R123
  | res_4_H -- CB A4, R123
  | res_4_L -- CB A5, R123
  | res_4_atHL -- CB A6, R123
  | res_4_A -- CB A7, R123
  | res_5_B -- CB A8, R123
  | res_5_C -- CB A9, R123
  | res_5_D -- CB AA, R123
  | res_5_E -- CB AB, R123
  | res_5_H -- CB AC, R123
  | res_5_L -- CB AD, R123
  | res_5_atHL -- CB AE, R123
  | res_5_A -- CB AF, R123
  | res_6_B -- CB B0, R123
  | res_6_C -- CB B1, R123
  | res_6_D -- CB B2, R123
  | res_6_E -- CB B3, R123
  | res_6_H -- CB B4, R123
  | res_6_L -- CB B5, R123
  | res_6_atHL -- CB B6, R123
  | res_6_A -- CB B7, R123
  | res_7_B -- CB B8, R123
  | res_7_C -- CB B9, R123
  | res_7_D -- CB BA, R123
  | res_7_E -- CB BB, R123
  | res_7_H -- CB BC, R123
  | res_7_L -- CB BD, R123
  | res_7_atHL -- CB BE, R123
  | res_7_A -- CB BF, R123
  | set_0_B -- CB C0, R124
  | set_0_C -- CB C1, R124
  | set_0_D -- CB C2, R124
  | set_0_E -- CB C3, R124
  | set_0_H -- CB C4, R124
  | set_0_L -- CB C5, R124
  | set_0_atHL -- CB C6, R124
  | set_0_A -- CB C7, R124
  | set_1_B -- CB C8, R124
  | set_1_C -- CB C9, R124
  | set_1_D -- CB CA, R124
  | set_1_E -- CB CB, R124
  | set_1_H -- CB CC, R124
  | set_1_L -- CB CD, R124
  | set_1_atHL -- CB CE, R124
  | set_1_A -- CB CF, R124
  | set_2_B -- CB D0, R124
  | set_2_C -- CB D1, R124
  | set_2_D -- CB D2, R124
  | set_2_E -- CB D3, R124
  | set_2_H -- CB D4, R124
  | set_2_L -- CB D5, R124
  | set_2_atHL -- CB D6, R124
  | set_2_A -- CB D7, R124
  | set_3_B -- CB D8, R124
  | set_3_C -- CB D9, R124
  | set_3_D -- CB DA, R124
  | set_3_E -- CB DB, R124
  | set_3_H -- CB DC, R124
  | set_3_L -- CB DD, R124
  | set_3_atHL -- CB DE, R124
  | set_3_A -- CB DF, R124
  | set_4_B -- CB E0, R124
  | set_4_C -- CB E1, R124
  | set_4_D -- CB E2, R124
  | set_4_E -- CB E3, R124
  | set_4_H -- CB E4, R124
  | set_4_L -- CB E5, R124
  | set_4_atHL -- CB E6, R124
  | set_4_A -- CB E7, R124
  | set_5_B -- CB E8, R124
  | set_5_C -- CB E9, R124
  | set_5_D -- CB EA, R124
  | set_5_E -- CB EB, R124
  | set_5_H -- CB EC, R124
  | set_5_L -- CB ED, R124
  | set_5_atHL -- CB EE, R124
  | set_5_A -- CB EF, R124
  | set_6_B -- CB F0, R124
  | set_6_C -- CB F1, R124
  | set_6_D -- CB F2, R124
  | set_6_E -- CB F3, R124
  | set_6_H -- CB F4, R124
  | set_6_L -- CB F5, R124
  | set_6_atHL -- CB F6, R124
  | set_6_A -- CB F7, R124
  | set_7_B -- CB F8, R124
  | set_7_C -- CB F9, R124
  | set_7_D -- CB FA, R124
  | set_7_E -- CB FB, R124
  | set_7_H -- CB FC, R124
  | set_7_L -- CB FD, R124
  | set_7_atHL -- CB FE, R124
  | set_7_A -- CB FF, R124
deriving DecidableEq, Repr

end Sys2Proof
end

