-- ==== Sys2Proof/Decode.lean ====
section
/-! DEFINITION. The decoder of 30_encoding.md and, after it, the encoder. The decoder follows the spec's own
construction: the four index tables (R55 to R59), the split of the opcode byte into fields (R61), and per block the fixed
opcodes and the residual patterns (R64 to R68). The encoder is written row by row from spec/opcode_table.json. The two
are therefore independent readings of the spec, and their round trip compares them. -/

namespace Sys2Proof

/-- The 8-register table r8 (R55): seven direct registers and the byte at address HL. -/
inductive R8 where
  | b | c | d | e | h | l | atHL | a
deriving DecidableEq, Repr

/-- The register-pair table r16 (R56). -/
inductive R16 where
  | bc | de | hl | sp
deriving DecidableEq, Repr

/-- The stack-pair table r16stk (R57). -/
inductive R16stk where
  | bc | de | hl | af
deriving DecidableEq, Repr

/-- The condition table cc (R58). -/
inductive Cond where
  | nz | z | nc | c
deriving DecidableEq, Repr

/-- The memory-pair table r16mem (R59): `atHLi` is [HL+] and `atHLd` is [HL-]. -/
inductive R16mem where
  | atBC | atDE | atHLi | atHLd
deriving DecidableEq, Repr

/-- The accumulator operations "in fixed order" (R66, R90). -/
inductive AluOp where
  | add | adc | sub | sbc | and | xor | or | cp
deriving DecidableEq, Repr

/-- The operations of the prefixed group 0 (R68). -/
inductive RotOp where
  | rlc | rrc | rl | rr | sla | sra | swap | srl
deriving DecidableEq, Repr

/-- Entry `i` of the table (R55). -/
def R8.ofField (i : BitVec 3) : R8 :=
  match i.toNat with
  | 0 => .b
  | 1 => .c
  | 2 => .d
  | 3 => .e
  | 4 => .h
  | 5 => .l
  | 6 => .atHL
  | _ => .a

/-- Entry `i` of the table (R56). -/
def R16.ofField (i : BitVec 2) : R16 :=
  match i.toNat with
  | 0 => .bc
  | 1 => .de
  | 2 => .hl
  | _ => .sp

/-- Entry `i` of the table (R57). -/
def R16stk.ofField (i : BitVec 2) : R16stk :=
  match i.toNat with
  | 0 => .bc
  | 1 => .de
  | 2 => .hl
  | _ => .af

/-- Entry `i` of the table (R58). -/
def Cond.ofField (i : BitVec 2) : Cond :=
  match i.toNat with
  | 0 => .nz
  | 1 => .z
  | 2 => .nc
  | _ => .c

/-- Entry `i` of the table (R59). -/
def R16mem.ofField (i : BitVec 2) : R16mem :=
  match i.toNat with
  | 0 => .atBC
  | 1 => .atDE
  | 2 => .atHLi
  | _ => .atHLd

/-- Entry `i` of the table (R66). -/
def AluOp.ofField (i : BitVec 3) : AluOp :=
  match i.toNat with
  | 0 => .add
  | 1 => .adc
  | 2 => .sub
  | 3 => .sbc
  | 4 => .and
  | 5 => .xor
  | 6 => .or
  | _ => .cp

/-- Entry `i` of the table (R68). -/
def RotOp.ofField (i : BitVec 3) : RotOp :=
  match i.toNat with
  | 0 => .rlc
  | 1 => .rrc
  | 2 => .rl
  | 3 => .rr
  | 4 => .sla
  | 5 => .sra
  | 6 => .swap
  | _ => .srl

/-! ### The residual patterns: which instruction a pattern's fields select -/

/-- `01yyyzzz` (R65): `LD r8[y],r8[z]`, and HALT where both fields select [HL]. -/
def Instr.ldOf (y : R8) (z : R8) : Instr :=
  match y with
  | .b =>
    match z with
    | .b => .ld_B_B | .c => .ld_B_C | .d => .ld_B_D | .e => .ld_B_E
    | .h => .ld_B_H | .l => .ld_B_L | .atHL => .ld_B_atHL | .a => .ld_B_A
  | .c =>
    match z with
    | .b => .ld_C_B | .c => .ld_C_C | .d => .ld_C_D | .e => .ld_C_E
    | .h => .ld_C_H | .l => .ld_C_L | .atHL => .ld_C_atHL | .a => .ld_C_A
  | .d =>
    match z with
    | .b => .ld_D_B | .c => .ld_D_C | .d => .ld_D_D | .e => .ld_D_E
    | .h => .ld_D_H | .l => .ld_D_L | .atHL => .ld_D_atHL | .a => .ld_D_A
  | .e =>
    match z with
    | .b => .ld_E_B | .c => .ld_E_C | .d => .ld_E_D | .e => .ld_E_E
    | .h => .ld_E_H | .l => .ld_E_L | .atHL => .ld_E_atHL | .a => .ld_E_A
  | .h =>
    match z with
    | .b => .ld_H_B | .c => .ld_H_C | .d => .ld_H_D | .e => .ld_H_E
    | .h => .ld_H_H | .l => .ld_H_L | .atHL => .ld_H_atHL | .a => .ld_H_A
  | .l =>
    match z with
    | .b => .ld_L_B | .c => .ld_L_C | .d => .ld_L_D | .e => .ld_L_E
    | .h => .ld_L_H | .l => .ld_L_L | .atHL => .ld_L_atHL | .a => .ld_L_A
  | .atHL =>
    match z with
    | .b => .ld_atHL_B | .c => .ld_atHL_C | .d => .ld_atHL_D | .e => .ld_atHL_E
    | .h => .ld_atHL_H | .l => .ld_atHL_L | .atHL => .halt | .a => .ld_atHL_A
  | .a =>
    match z with
    | .b => .ld_A_B | .c => .ld_A_C | .d => .ld_A_D | .e => .ld_A_E
    | .h => .ld_A_H | .l => .ld_A_L | .atHL => .ld_A_atHL | .a => .ld_A_A

/-- `10yyyzzz` (R66): `op A,r8[z]`. -/
def Instr.aluOf (y : AluOp) (z : R8) : Instr :=
  match y with
  | .add =>
    match z with
    | .b => .add_A_B | .c => .add_A_C | .d => .add_A_D | .e => .add_A_E
    | .h => .add_A_H | .l => .add_A_L | .atHL => .add_A_atHL | .a => .add_A_A
  | .adc =>
    match z with
    | .b => .adc_A_B | .c => .adc_A_C | .d => .adc_A_D | .e => .adc_A_E
    | .h => .adc_A_H | .l => .adc_A_L | .atHL => .adc_A_atHL | .a => .adc_A_A
  | .sub =>
    match z with
    | .b => .sub_A_B | .c => .sub_A_C | .d => .sub_A_D | .e => .sub_A_E
    | .h => .sub_A_H | .l => .sub_A_L | .atHL => .sub_A_atHL | .a => .sub_A_A
  | .sbc =>
    match z with
    | .b => .sbc_A_B | .c => .sbc_A_C | .d => .sbc_A_D | .e => .sbc_A_E
    | .h => .sbc_A_H | .l => .sbc_A_L | .atHL => .sbc_A_atHL | .a => .sbc_A_A
  | .and =>
    match z with
    | .b => .and_A_B | .c => .and_A_C | .d => .and_A_D | .e => .and_A_E
    | .h => .and_A_H | .l => .and_A_L | .atHL => .and_A_atHL | .a => .and_A_A
  | .xor =>
    match z with
    | .b => .xor_A_B | .c => .xor_A_C | .d => .xor_A_D | .e => .xor_A_E
    | .h => .xor_A_H | .l => .xor_A_L | .atHL => .xor_A_atHL | .a => .xor_A_A
  | .or =>
    match z with
    | .b => .or_A_B | .c => .or_A_C | .d => .or_A_D | .e => .or_A_E
    | .h => .or_A_H | .l => .or_A_L | .atHL => .or_A_atHL | .a => .or_A_A
  | .cp =>
    match z with
    | .b => .cp_A_B | .c => .cp_A_C | .d => .cp_A_D | .e => .cp_A_E
    | .h => .cp_A_H | .l => .cp_A_L | .atHL => .cp_A_atHL | .a => .cp_A_A

/-- `00yyyzzz` behind 0xCB (R68): rotate or shift r8[z]. -/
def Instr.rotOf (y : RotOp) (z : R8) : Instr :=
  match y with
  | .rlc =>
    match z with
    | .b => .rlc_B | .c => .rlc_C | .d => .rlc_D | .e => .rlc_E
    | .h => .rlc_H | .l => .rlc_L | .atHL => .rlc_atHL | .a => .rlc_A
  | .rrc =>
    match z with
    | .b => .rrc_B | .c => .rrc_C | .d => .rrc_D | .e => .rrc_E
    | .h => .rrc_H | .l => .rrc_L | .atHL => .rrc_atHL | .a => .rrc_A
  | .rl =>
    match z with
    | .b => .rl_B | .c => .rl_C | .d => .rl_D | .e => .rl_E
    | .h => .rl_H | .l => .rl_L | .atHL => .rl_atHL | .a => .rl_A
  | .rr =>
    match z with
    | .b => .rr_B | .c => .rr_C | .d => .rr_D | .e => .rr_E
    | .h => .rr_H | .l => .rr_L | .atHL => .rr_atHL | .a => .rr_A
  | .sla =>
    match z with
    | .b => .sla_B | .c => .sla_C | .d => .sla_D | .e => .sla_E
    | .h => .sla_H | .l => .sla_L | .atHL => .sla_atHL | .a => .sla_A
  | .sra =>
    match z with
    | .b => .sra_B | .c => .sra_C | .d => .sra_D | .e => .sra_E
    | .h => .sra_H | .l => .sra_L | .atHL => .sra_atHL | .a => .sra_A
  | .swap =>
    match z with
    | .b => .swap_B | .c => .swap_C | .d => .swap_D | .e => .swap_E
    | .h => .swap_H | .l => .swap_L | .atHL => .swap_atHL | .a => .swap_A
  | .srl =>
    match z with
    | .b => .srl_B | .c => .srl_C | .d => .srl_D | .e => .srl_E
    | .h => .srl_H | .l => .srl_L | .atHL => .srl_atHL | .a => .srl_A

/-- `01yyyzzz` behind 0xCB (R68): `BIT y,r8[z]`. -/
def Instr.bitOf (y : Fin 8) (z : R8) : Instr :=
  match y with
  | 0 =>
    match z with
    | .b => .bit_0_B | .c => .bit_0_C | .d => .bit_0_D | .e => .bit_0_E
    | .h => .bit_0_H | .l => .bit_0_L | .atHL => .bit_0_atHL | .a => .bit_0_A
  | 1 =>
    match z with
    | .b => .bit_1_B | .c => .bit_1_C | .d => .bit_1_D | .e => .bit_1_E
    | .h => .bit_1_H | .l => .bit_1_L | .atHL => .bit_1_atHL | .a => .bit_1_A
  | 2 =>
    match z with
    | .b => .bit_2_B | .c => .bit_2_C | .d => .bit_2_D | .e => .bit_2_E
    | .h => .bit_2_H | .l => .bit_2_L | .atHL => .bit_2_atHL | .a => .bit_2_A
  | 3 =>
    match z with
    | .b => .bit_3_B | .c => .bit_3_C | .d => .bit_3_D | .e => .bit_3_E
    | .h => .bit_3_H | .l => .bit_3_L | .atHL => .bit_3_atHL | .a => .bit_3_A
  | 4 =>
    match z with
    | .b => .bit_4_B | .c => .bit_4_C | .d => .bit_4_D | .e => .bit_4_E
    | .h => .bit_4_H | .l => .bit_4_L | .atHL => .bit_4_atHL | .a => .bit_4_A
  | 5 =>
    match z with
    | .b => .bit_5_B | .c => .bit_5_C | .d => .bit_5_D | .e => .bit_5_E
    | .h => .bit_5_H | .l => .bit_5_L | .atHL => .bit_5_atHL | .a => .bit_5_A
  | 6 =>
    match z with
    | .b => .bit_6_B | .c => .bit_6_C | .d => .bit_6_D | .e => .bit_6_E
    | .h => .bit_6_H | .l => .bit_6_L | .atHL => .bit_6_atHL | .a => .bit_6_A
  | 7 =>
    match z with
    | .b => .bit_7_B | .c => .bit_7_C | .d => .bit_7_D | .e => .bit_7_E
    | .h => .bit_7_H | .l => .bit_7_L | .atHL => .bit_7_atHL | .a => .bit_7_A

/-- `10yyyzzz` behind 0xCB (R68): `RES y,r8[z]`. -/
def Instr.resOf (y : Fin 8) (z : R8) : Instr :=
  match y with
  | 0 =>
    match z with
    | .b => .res_0_B | .c => .res_0_C | .d => .res_0_D | .e => .res_0_E
    | .h => .res_0_H | .l => .res_0_L | .atHL => .res_0_atHL | .a => .res_0_A
  | 1 =>
    match z with
    | .b => .res_1_B | .c => .res_1_C | .d => .res_1_D | .e => .res_1_E
    | .h => .res_1_H | .l => .res_1_L | .atHL => .res_1_atHL | .a => .res_1_A
  | 2 =>
    match z with
    | .b => .res_2_B | .c => .res_2_C | .d => .res_2_D | .e => .res_2_E
    | .h => .res_2_H | .l => .res_2_L | .atHL => .res_2_atHL | .a => .res_2_A
  | 3 =>
    match z with
    | .b => .res_3_B | .c => .res_3_C | .d => .res_3_D | .e => .res_3_E
    | .h => .res_3_H | .l => .res_3_L | .atHL => .res_3_atHL | .a => .res_3_A
  | 4 =>
    match z with
    | .b => .res_4_B | .c => .res_4_C | .d => .res_4_D | .e => .res_4_E
    | .h => .res_4_H | .l => .res_4_L | .atHL => .res_4_atHL | .a => .res_4_A
  | 5 =>
    match z with
    | .b => .res_5_B | .c => .res_5_C | .d => .res_5_D | .e => .res_5_E
    | .h => .res_5_H | .l => .res_5_L | .atHL => .res_5_atHL | .a => .res_5_A
  | 6 =>
    match z with
    | .b => .res_6_B | .c => .res_6_C | .d => .res_6_D | .e => .res_6_E
    | .h => .res_6_H | .l => .res_6_L | .atHL => .res_6_atHL | .a => .res_6_A
  | 7 =>
    match z with
    | .b => .res_7_B | .c => .res_7_C | .d => .res_7_D | .e => .res_7_E
    | .h => .res_7_H | .l => .res_7_L | .atHL => .res_7_atHL | .a => .res_7_A

/-- `11yyyzzz` behind 0xCB (R68): `SET y,r8[z]`. -/
def Instr.setOf (y : Fin 8) (z : R8) : Instr :=
  match y with
  | 0 =>
    match z with
    | .b => .set_0_B | .c => .set_0_C | .d => .set_0_D | .e => .set_0_E
    | .h => .set_0_H | .l => .set_0_L | .atHL => .set_0_atHL | .a => .set_0_A
  | 1 =>
    match z with
    | .b => .set_1_B | .c => .set_1_C | .d => .set_1_D | .e => .set_1_E
    | .h => .set_1_H | .l => .set_1_L | .atHL => .set_1_atHL | .a => .set_1_A
  | 2 =>
    match z with
    | .b => .set_2_B | .c => .set_2_C | .d => .set_2_D | .e => .set_2_E
    | .h => .set_2_H | .l => .set_2_L | .atHL => .set_2_atHL | .a => .set_2_A
  | 3 =>
    match z with
    | .b => .set_3_B | .c => .set_3_C | .d => .set_3_D | .e => .set_3_E
    | .h => .set_3_H | .l => .set_3_L | .atHL => .set_3_atHL | .a => .set_3_A
  | 4 =>
    match z with
    | .b => .set_4_B | .c => .set_4_C | .d => .set_4_D | .e => .set_4_E
    | .h => .set_4_H | .l => .set_4_L | .atHL => .set_4_atHL | .a => .set_4_A
  | 5 =>
    match z with
    | .b => .set_5_B | .c => .set_5_C | .d => .set_5_D | .e => .set_5_E
    | .h => .set_5_H | .l => .set_5_L | .atHL => .set_5_atHL | .a => .set_5_A
  | 6 =>
    match z with
    | .b => .set_6_B | .c => .set_6_C | .d => .set_6_D | .e => .set_6_E
    | .h => .set_6_H | .l => .set_6_L | .atHL => .set_6_atHL | .a => .set_6_A
  | 7 =>
    match z with
    | .b => .set_7_B | .c => .set_7_C | .d => .set_7_D | .e => .set_7_E
    | .h => .set_7_H | .l => .set_7_L | .atHL => .set_7_atHL | .a => .set_7_A

/-- `00yyy100` (R64): `INC r8[y]`. -/
def Instr.incR8Of (y : R8) : Instr :=
  match y with
  | .b => .inc_B
  | .c => .inc_C
  | .d => .inc_D
  | .e => .inc_E
  | .h => .inc_H
  | .l => .inc_L
  | .atHL => .inc_atHL
  | .a => .inc_A

/-- `00yyy101` (R64): `DEC r8[y]`. -/
def Instr.decR8Of (y : R8) : Instr :=
  match y with
  | .b => .dec_B
  | .c => .dec_C
  | .d => .dec_D
  | .e => .dec_E
  | .h => .dec_H
  | .l => .dec_L
  | .atHL => .dec_atHL
  | .a => .dec_A

/-- `00yyy110` (R64): `LD r8[y],n8`. -/
def Instr.ldImmOf (y : R8) (n8 : Byte) : Instr :=
  match y with
  | .b => .ld_B_n8 n8
  | .c => .ld_C_n8 n8
  | .d => .ld_D_n8 n8
  | .e => .ld_E_n8 n8
  | .h => .ld_H_n8 n8
  | .l => .ld_L_n8 n8
  | .atHL => .ld_atHL_n8 n8
  | .a => .ld_A_n8 n8

/-- `11yyy110` (R67, R90): `op A,n8`. -/
def Instr.aluImmOf (y : AluOp) (n8 : Byte) : Instr :=
  match y with
  | .add => .add_A_n8 n8
  | .adc => .adc_A_n8 n8
  | .sub => .sub_A_n8 n8
  | .sbc => .sbc_A_n8 n8
  | .and => .and_A_n8 n8
  | .xor => .xor_A_n8 n8
  | .or => .or_A_n8 n8
  | .cp => .cp_A_n8 n8

/-- `00pp0001` (R64): `LD r16[p],n16`. -/
def Instr.ldR16Of (y : R16) (n16 : Word) : Instr :=
  match y with
  | .bc => .ld_BC_n16 n16
  | .de => .ld_DE_n16 n16
  | .hl => .ld_HL_n16 n16
  | .sp => .ld_SP_n16 n16

/-- `00pp1001` (R64): `ADD HL,r16[p]`. -/
def Instr.addHLOf (y : R16) : Instr :=
  match y with
  | .bc => .add_HL_BC
  | .de => .add_HL_DE
  | .hl => .add_HL_HL
  | .sp => .add_HL_SP

/-- `00pp0011` (R64): `INC r16[p]`. -/
def Instr.incR16Of (y : R16) : Instr :=
  match y with
  | .bc => .inc_BC
  | .de => .inc_DE
  | .hl => .inc_HL
  | .sp => .inc_SP

/-- `00pp1011` (R64): `DEC r16[p]`. -/
def Instr.decR16Of (y : R16) : Instr :=
  match y with
  | .bc => .dec_BC
  | .de => .dec_DE
  | .hl => .dec_HL
  | .sp => .dec_SP

/-- `00pp0010` (R64): `LD r16mem[p],A`. -/
def Instr.storeAOf (y : R16mem) : Instr :=
  match y with
  | .atBC => .ld_atBC_A
  | .atDE => .ld_atDE_A
  | .atHLi => .ld_atHLi_A
  | .atHLd => .ld_atHLd_A

/-- `00pp1010` (R64): `LD A,r16mem[p]`. -/
def Instr.loadAOf (y : R16mem) : Instr :=
  match y with
  | .atBC => .ld_A_atBC
  | .atDE => .ld_A_atDE
  | .atHLi => .ld_A_atHLi
  | .atHLd => .ld_A_atHLd

/-- `001cc000` (R64): `JR cc,e8`. -/
def Instr.jrCcOf (y : Cond) (e8 : Byte) : Instr :=
  match y with
  | .nz => .jr_NZ_e8 e8
  | .z => .jr_Z_e8 e8
  | .nc => .jr_NC_e8 e8
  | .c => .jr_C_e8 e8

/-- `110cc000` (R67): `RET cc`. -/
def Instr.retCcOf (y : Cond) : Instr :=
  match y with
  | .nz => .ret_NZ
  | .z => .ret_Z
  | .nc => .ret_NC
  | .c => .ret_C

/-- `110cc010` (R67): `JP cc,n16`. -/
def Instr.jpCcOf (y : Cond) (n16 : Word) : Instr :=
  match y with
  | .nz => .jp_NZ_n16 n16
  | .z => .jp_Z_n16 n16
  | .nc => .jp_NC_n16 n16
  | .c => .jp_C_n16 n16

/-- `110cc100` (R67): `CALL cc,n16`. -/
def Instr.callCcOf (y : Cond) (n16 : Word) : Instr :=
  match y with
  | .nz => .call_NZ_n16 n16
  | .z => .call_Z_n16 n16
  | .nc => .call_NC_n16 n16
  | .c => .call_C_n16 n16

/-- `11pp0001` (R67): `POP r16stk[p]`. -/
def Instr.popOf (y : R16stk) : Instr :=
  match y with
  | .bc => .pop_BC
  | .de => .pop_DE
  | .hl => .pop_HL
  | .af => .pop_AF

/-- `11pp0101` (R67): `PUSH r16stk[p]`. -/
def Instr.pushOf (y : R16stk) : Instr :=
  match y with
  | .bc => .push_BC
  | .de => .push_DE
  | .hl => .push_HL
  | .af => .push_AF

/-- `11ttt111` (R67): `RST t*8`. -/
def Instr.rstOf (t : Fin 8) : Instr :=
  match t with
  | 0 => .rst_00
  | 1 => .rst_08
  | 2 => .rst_10
  | 3 => .rst_18
  | 4 => .rst_20
  | 5 => .rst_28
  | 6 => .rst_30
  | 7 => .rst_38

/-! ### The decoder -/

/-- The field bits 7:6 of an opcode byte (R61). -/
def opBlock (op : Byte) : BitVec 2 := op.extractLsb' 6 2

/-- The field y, bits 5:3 (R61). -/
def opY (op : Byte) : BitVec 3 := op.extractLsb' 3 3

/-- The field z, bits 2:0 (R61). -/
def opZ (op : Byte) : BitVec 3 := op.extractLsb' 0 3

/-- The field p, bits 5:4 (R61). -/
def opP (op : Byte) : BitVec 2 := op.extractLsb' 4 2

/-- The field q, bit 3 (R61). -/
def opQ (op : Byte) : Bool := op.getLsbD 3

/-- The field cc, bits 4:3 (R61). Its remark that bit 5 is 0 in every conditional form is not followed for `JR cc`, whose bytes R62
and R64 give as 001cc000 (DEDUCED, unsafe, notes/assumptions/21.md). -/
def opCc (op : Byte) : BitVec 2 := op.extractLsb' 3 2

/-- Block 0x00 (R64); `n` and `hi` are the immediate bytes, where the instruction has them. `JR cc,e8` is 001cc000 with bit 5
set, as R62 and R64 have it, against the remark of R61 (DEDUCED, unsafe, notes/assumptions/21.md). -/
def decodeBlock0 (op n hi : Byte) : Instr :=
  match (opZ op).toNat with
  | 0 =>
    match (opY op).toNat with
    | 0 => .nop
    | 1 => .ld_atN16_SP (.ofBytes hi n)
    | 2 => .stop n
    | 3 => .jr_e8 n
    | _ => .jrCcOf (.ofField (opCc op)) n
  | 1 => if opQ op then .addHLOf (.ofField (opP op)) else .ldR16Of (.ofField (opP op)) (.ofBytes hi n)
  | 2 => if opQ op then .loadAOf (.ofField (opP op)) else .storeAOf (.ofField (opP op))
  | 3 => if opQ op then .decR16Of (.ofField (opP op)) else .incR16Of (.ofField (opP op))
  | 4 => .incR8Of (.ofField (opY op))
  | 5 => .decR8Of (.ofField (opY op))
  | 6 => .ldImmOf (.ofField (opY op)) n
  | _ =>
    match (opY op).toNat with
    | 0 => .rlca
    | 1 => .rrca
    | 2 => .rla
    | 3 => .rra
    | 4 => .daa
    | 5 => .cpl
    | 6 => .scf
    | _ => .ccf

/-- The 0xCB-prefixed space (R68): the group, the operation or bit index, the operand. -/
def decodePrefixed (second : Byte) : Instr :=
  match (opBlock second).toNat with
  | 0 => .rotOf (.ofField (opY second)) (.ofField (opZ second))
  | 1 => .bitOf (opY second).toFin (.ofField (opZ second))
  | 2 => .resOf (opY second).toFin (.ofField (opZ second))
  | _ => .setOf (opY second).toFin (.ofField (opZ second))

/-- Block 0xC0 (R67), with the unrecognised bytes of R69 as the illegal instructions they are. -/
def decodeBlock3 (op n hi : Byte) : Instr :=
  match (opZ op).toNat with
  | 0 =>
    match (opY op).toNat with
    | 4 => .ldh_atA8_A n
    | 5 => .add_SP_e8 n
    | 6 => .ldh_A_atA8 n
    | 7 => .ld_HL_SPe8 n
    | _ => .retCcOf (.ofField (opCc op))
  | 1 =>
    match (opY op).toNat with
    | 1 => .ret
    | 3 => .reti
    | 5 => .jp_HL
    | 7 => .ld_SP_HL
    | _ => .popOf (.ofField (opP op))
  | 2 =>
    match (opY op).toNat with
    | 4 => .ldh_atC_A
    | 5 => .ld_atN16_A (.ofBytes hi n)
    | 6 => .ldh_A_atC
    | 7 => .ld_A_atN16 (.ofBytes hi n)
    | _ => .jpCcOf (.ofField (opCc op)) (.ofBytes hi n)
  | 3 =>
    match (opY op).toNat with
    | 0 => .jp_n16 (.ofBytes hi n)
    | 1 => decodePrefixed n
    | 2 => .illegal_D3
    | 3 => .illegal_DB
    | 4 => .illegal_E3
    | 5 => .illegal_EB
    | 6 => .di
    | _ => .ei
  | 4 =>
    match (opY op).toNat with
    | 4 => .illegal_E4
    | 5 => .illegal_EC
    | 6 => .illegal_F4
    | 7 => .illegal_FC
    | _ => .callCcOf (.ofField (opCc op)) (.ofBytes hi n)
  | 5 =>
    match (opY op).toNat with
    | 1 => .call_n16 (.ofBytes hi n)
    | 3 => .illegal_DD
    | 5 => .illegal_ED
    | 7 => .illegal_FD
    | _ => .pushOf (.ofField (opP op))
  | 6 => .aluImmOf (.ofField (opY op)) n
  | _ => .rstOf (opY op).toFin

/-- The decoder (R61, R64): dispatch on the block of the first byte. It is total: every first byte is an instruction, 11 of
them illegal (R69), and every byte behind 0xCB is defined (R68). -/
def decodeOp (op n hi : Byte) : Instr :=
  match (opBlock op).toNat with
  | 0 => decodeBlock0 op n hi
  | 1 => .ldOf (.ofField (opY op)) (.ofField (opZ op))
  | 2 => .aluOf (.ofField (opY op)) (.ofField (opZ op))
  | _ => decodeBlock3 op n hi

/-- The instruction's length, told from the first byte alone (R60): the `length` column of R64 to R68. -/
def opLength (op : Byte) : Nat :=
  match (opBlock op).toNat, (opZ op).toNat, (opY op).toNat with
  | 0, 0, 0 => 1
  | 0, 0, 1 => 3
  | 0, 0, _ => 2
  | 0, 1, _ => if opQ op then 1 else 3
  | 0, 6, _ => 2
  | 0, _, _ => 1
  | 1, _, _ => 1
  | 2, _, _ => 1
  | _, 0, y => if y < 4 then 1 else 2
  | _, 2, y => if y < 4 || y == 5 || y == 7 then 3 else 1
  | _, 3, y => if y == 0 then 3 else if y == 1 then 2 else 1
  | _, 4, y => if y < 4 then 3 else 1
  | _, 5, y => if y == 1 then 3 else 1
  | _, 6, _ => 2
  | _, _, _ => 1

/-- Why a list of bytes is no instruction: it is empty, or it ends before the instruction that its first byte begins. -/
inductive DecodeError where
  | noBytes
  | truncated (op : Byte)
deriving DecidableEq, Repr

/-- The instruction at the head of a list of bytes, with the bytes behind it. -/
def decode : List Byte → Except DecodeError (Instr × List Byte)
  | [] => .error .noBytes
  | op :: rest =>
    match opLength op, rest with
    | 1, rest => .ok (decodeOp op 0 0, rest)
    | 2, n :: rest => .ok (decodeOp op n 0, rest)
    | 3, n :: hi :: rest => .ok (decodeOp op n hi, rest)
    | _, _ => .error (.truncated op)

/-! ### The words of spec/opcode_table.json -/

/-- The three bytes, first byte first, of the instruction whose bits are `w` as spec/opcode_table.json numbers them. The
table writes a 0xCB-prefixed row as the number 0xCBss, the prefix in bits 15:8 (`match` "0xCB37"), so for a two-byte word
whose bits 15:8 are 0xCB that byte is the first; every other word counts on from the first byte in bits 7:0
(DEDUCED, safe, notes/assumptions/10.md). -/
def tableBytes (nbits w : Nat) : Byte × Byte × Byte :=
  let v := w % 2 ^ nbits
  let byteAt (k : Nat) : Byte := BitVec.ofNat 8 (v / 256 ^ k)
  if nbits = 16 ∧ byteAt 1 = 0xCB then (0xCB, byteAt 0, 0) else (byteAt 0, byteAt 1, byteAt 2)

/-- The instruction the decoder reads from a word of the opcode table. -/
def decodeTableWord (nbits w : Nat) : Option Instr :=
  match tableBytes nbits w with
  | (b0, b1, b2) =>
    match decode [b0, b1, b2] with
    | .ok (i, _) => some i
    | .error _ => none

/-! ### The encoder -/

/-- The bytes of an instruction in memory order (R60, R62): the opcode, then the immediates, n16 low byte first; a row of
spec/opcode_table.json a line. -/
def encode : Instr → List Byte
  | .nop => [0x00]
  | .ld_BC_n16 n16 => [0x01, n16.loByte, n16.hiByte]
  | .ld_atBC_A => [0x02]
  | .inc_BC => [0x03]
  | .inc_B => [0x04]
  | .dec_B => [0x05]
  | .ld_B_n8 n8 => [0x06, n8]
  | .rlca => [0x07]
  | .ld_atN16_SP n16 => [0x08, n16.loByte, n16.hiByte]
  | .add_HL_BC => [0x09]
  | .ld_A_atBC => [0x0A]
  | .dec_BC => [0x0B]
  | .inc_C => [0x0C]
  | .dec_C => [0x0D]
  | .ld_C_n8 n8 => [0x0E, n8]
  | .rrca => [0x0F]
  | .stop x => [0x10, x]
  | .ld_DE_n16 n16 => [0x11, n16.loByte, n16.hiByte]
  | .ld_atDE_A => [0x12]
  | .inc_DE => [0x13]
  | .inc_D => [0x14]
  | .dec_D => [0x15]
  | .ld_D_n8 n8 => [0x16, n8]
  | .rla => [0x17]
  | .jr_e8 e8 => [0x18, e8]
  | .add_HL_DE => [0x19]
  | .ld_A_atDE => [0x1A]
  | .dec_DE => [0x1B]
  | .inc_E => [0x1C]
  | .dec_E => [0x1D]
  | .ld_E_n8 n8 => [0x1E, n8]
  | .rra => [0x1F]
  | .jr_NZ_e8 e8 => [0x20, e8]
  | .ld_HL_n16 n16 => [0x21, n16.loByte, n16.hiByte]
  | .ld_atHLi_A => [0x22]
  | .inc_HL => [0x23]
  | .inc_H => [0x24]
  | .dec_H => [0x25]
  | .ld_H_n8 n8 => [0x26, n8]
  | .daa => [0x27]
  | .jr_Z_e8 e8 => [0x28, e8]
  | .add_HL_HL => [0x29]
  | .ld_A_atHLi => [0x2A]
  | .dec_HL => [0x2B]
  | .inc_L => [0x2C]
  | .dec_L => [0x2D]
  | .ld_L_n8 n8 => [0x2E, n8]
  | .cpl => [0x2F]
  | .jr_NC_e8 e8 => [0x30, e8]
  | .ld_SP_n16 n16 => [0x31, n16.loByte, n16.hiByte]
  | .ld_atHLd_A => [0x32]
  | .inc_SP => [0x33]
  | .inc_atHL => [0x34]
  | .dec_atHL => [0x35]
  | .ld_atHL_n8 n8 => [0x36, n8]
  | .scf => [0x37]
  | .jr_C_e8 e8 => [0x38, e8]
  | .add_HL_SP => [0x39]
  | .ld_A_atHLd => [0x3A]
  | .dec_SP => [0x3B]
  | .inc_A => [0x3C]
  | .dec_A => [0x3D]
  | .ld_A_n8 n8 => [0x3E, n8]
  | .ccf => [0x3F]
  | .ld_B_B => [0x40]
  | .ld_B_C => [0x41]
  | .ld_B_D => [0x42]
  | .ld_B_E => [0x43]
  | .ld_B_H => [0x44]
  | .ld_B_L => [0x45]
  | .ld_B_atHL => [0x46]
  | .ld_B_A => [0x47]
  | .ld_C_B => [0x48]
  | .ld_C_C => [0x49]
  | .ld_C_D => [0x4A]
  | .ld_C_E => [0x4B]
  | .ld_C_H => [0x4C]
  | .ld_C_L => [0x4D]
  | .ld_C_atHL => [0x4E]
  | .ld_C_A => [0x4F]
  | .ld_D_B => [0x50]
  | .ld_D_C => [0x51]
  | .ld_D_D => [0x52]
  | .ld_D_E => [0x53]
  | .ld_D_H => [0x54]
  | .ld_D_L => [0x55]
  | .ld_D_atHL => [0x56]
  | .ld_D_A => [0x57]
  | .ld_E_B => [0x58]
  | .ld_E_C => [0x59]
  | .ld_E_D => [0x5A]
  | .ld_E_E => [0x5B]
  | .ld_E_H => [0x5C]
  | .ld_E_L => [0x5D]
  | .ld_E_atHL => [0x5E]
  | .ld_E_A => [0x5F]
  | .ld_H_B => [0x60]
  | .ld_H_C => [0x61]
  | .ld_H_D => [0x62]
  | .ld_H_E => [0x63]
  | .ld_H_H => [0x64]
  | .ld_H_L => [0x65]
  | .ld_H_atHL => [0x66]
  | .ld_H_A => [0x67]
  | .ld_L_B => [0x68]
  | .ld_L_C => [0x69]
  | .ld_L_D => [0x6A]
  | .ld_L_E => [0x6B]
  | .ld_L_H => [0x6C]
  | .ld_L_L => [0x6D]
  | .ld_L_atHL => [0x6E]
  | .ld_L_A => [0x6F]
  | .ld_atHL_B => [0x70]
  | .ld_atHL_C => [0x71]
  | .ld_atHL_D => [0x72]
  | .ld_atHL_E => [0x73]
  | .ld_atHL_H => [0x74]
  | .ld_atHL_L => [0x75]
  | .halt => [0x76]
  | .ld_atHL_A => [0x77]
  | .ld_A_B => [0x78]
  | .ld_A_C => [0x79]
  | .ld_A_D => [0x7A]
  | .ld_A_E => [0x7B]
  | .ld_A_H => [0x7C]
  | .ld_A_L => [0x7D]
  | .ld_A_atHL => [0x7E]
  | .ld_A_A => [0x7F]
  | .add_A_B => [0x80]
  | .add_A_C => [0x81]
  | .add_A_D => [0x82]
  | .add_A_E => [0x83]
  | .add_A_H => [0x84]
  | .add_A_L => [0x85]
  | .add_A_atHL => [0x86]
  | .add_A_A => [0x87]
  | .adc_A_B => [0x88]
  | .adc_A_C => [0x89]
  | .adc_A_D => [0x8A]
  | .adc_A_E => [0x8B]
  | .adc_A_H => [0x8C]
  | .adc_A_L => [0x8D]
  | .adc_A_atHL => [0x8E]
  | .adc_A_A => [0x8F]
  | .sub_A_B => [0x90]
  | .sub_A_C => [0x91]
  | .sub_A_D => [0x92]
  | .sub_A_E => [0x93]
  | .sub_A_H => [0x94]
  | .sub_A_L => [0x95]
  | .sub_A_atHL => [0x96]
  | .sub_A_A => [0x97]
  | .sbc_A_B => [0x98]
  | .sbc_A_C => [0x99]
  | .sbc_A_D => [0x9A]
  | .sbc_A_E => [0x9B]
  | .sbc_A_H => [0x9C]
  | .sbc_A_L => [0x9D]
  | .sbc_A_atHL => [0x9E]
  | .sbc_A_A => [0x9F]
  | .and_A_B => [0xA0]
  | .and_A_C => [0xA1]
  | .and_A_D => [0xA2]
  | .and_A_E => [0xA3]
  | .and_A_H => [0xA4]
  | .and_A_L => [0xA5]
  | .and_A_atHL => [0xA6]
  | .and_A_A => [0xA7]
  | .xor_A_B => [0xA8]
  | .xor_A_C => [0xA9]
  | .xor_A_D => [0xAA]
  | .xor_A_E => [0xAB]
  | .xor_A_H => [0xAC]
  | .xor_A_L => [0xAD]
  | .xor_A_atHL => [0xAE]
  | .xor_A_A => [0xAF]
  | .or_A_B => [0xB0]
  | .or_A_C => [0xB1]
  | .or_A_D => [0xB2]
  | .or_A_E => [0xB3]
  | .or_A_H => [0xB4]
  | .or_A_L => [0xB5]
  | .or_A_atHL => [0xB6]
  | .or_A_A => [0xB7]
  | .cp_A_B => [0xB8]
  | .cp_A_C => [0xB9]
  | .cp_A_D => [0xBA]
  | .cp_A_E => [0xBB]
  | .cp_A_H => [0xBC]
  | .cp_A_L => [0xBD]
  | .cp_A_atHL => [0xBE]
  | .cp_A_A => [0xBF]
  | .ret_NZ => [0xC0]
  | .pop_BC => [0xC1]
  | .jp_NZ_n16 n16 => [0xC2, n16.loByte, n16.hiByte]
  | .jp_n16 n16 => [0xC3, n16.loByte, n16.hiByte]
  | .call_NZ_n16 n16 => [0xC4, n16.loByte, n16.hiByte]
  | .push_BC => [0xC5]
  | .add_A_n8 n8 => [0xC6, n8]
  | .rst_00 => [0xC7]
  | .ret_Z => [0xC8]
  | .ret => [0xC9]
  | .jp_Z_n16 n16 => [0xCA, n16.loByte, n16.hiByte]
  | .prefix_CB s => [0xCB, s]
  | .call_Z_n16 n16 => [0xCC, n16.loByte, n16.hiByte]
  | .call_n16 n16 => [0xCD, n16.loByte, n16.hiByte]
  | .adc_A_n8 n8 => [0xCE, n8]
  | .rst_08 => [0xCF]
  | .ret_NC => [0xD0]
  | .pop_DE => [0xD1]
  | .jp_NC_n16 n16 => [0xD2, n16.loByte, n16.hiByte]
  | .illegal_D3 => [0xD3]
  | .call_NC_n16 n16 => [0xD4, n16.loByte, n16.hiByte]
  | .push_DE => [0xD5]
  | .sub_A_n8 n8 => [0xD6, n8]
  | .rst_10 => [0xD7]
  | .ret_C => [0xD8]
  | .reti => [0xD9]
  | .jp_C_n16 n16 => [0xDA, n16.loByte, n16.hiByte]
  | .illegal_DB => [0xDB]
  | .call_C_n16 n16 => [0xDC, n16.loByte, n16.hiByte]
  | .illegal_DD => [0xDD]
  | .sbc_A_n8 n8 => [0xDE, n8]
  | .rst_18 => [0xDF]
  | .ldh_atA8_A a8 => [0xE0, a8]
  | .pop_HL => [0xE1]
  | .ldh_atC_A => [0xE2]
  | .illegal_E3 => [0xE3]
  | .illegal_E4 => [0xE4]
  | .push_HL => [0xE5]
  | .and_A_n8 n8 => [0xE6, n8]
  | .rst_20 => [0xE7]
  | .add_SP_e8 e8 => [0xE8, e8]
  | .jp_HL => [0xE9]
  | .ld_atN16_A n16 => [0xEA, n16.loByte, n16.hiByte]
  | .illegal_EB => [0xEB]
  | .illegal_EC => [0xEC]
  | .illegal_ED => [0xED]
  | .xor_A_n8 n8 => [0xEE, n8]
  | .rst_28 => [0xEF]
  | .ldh_A_atA8 a8 => [0xF0, a8]
  | .pop_AF => [0xF1]
  | .ldh_A_atC => [0xF2]
  | .di => [0xF3]
  | .illegal_F4 => [0xF4]
  | .push_AF => [0xF5]
  | .or_A_n8 n8 => [0xF6, n8]
  | .rst_30 => [0xF7]
  | .ld_HL_SPe8 e8 => [0xF8, e8]
  | .ld_SP_HL => [0xF9]
  | .ld_A_atN16 n16 => [0xFA, n16.loByte, n16.hiByte]
  | .ei => [0xFB]
  | .illegal_FC => [0xFC]
  | .illegal_FD => [0xFD]
  | .cp_A_n8 n8 => [0xFE, n8]
  | .rst_38 => [0xFF]
  | .rlc_B => [0xCB, 0x00]
  | .rlc_C => [0xCB, 0x01]
  | .rlc_D => [0xCB, 0x02]
  | .rlc_E => [0xCB, 0x03]
  | .rlc_H => [0xCB, 0x04]
  | .rlc_L => [0xCB, 0x05]
  | .rlc_atHL => [0xCB, 0x06]
  | .rlc_A => [0xCB, 0x07]
  | .rrc_B => [0xCB, 0x08]
  | .rrc_C => [0xCB, 0x09]
  | .rrc_D => [0xCB, 0x0A]
  | .rrc_E => [0xCB, 0x0B]
  | .rrc_H => [0xCB, 0x0C]
  | .rrc_L => [0xCB, 0x0D]
  | .rrc_atHL => [0xCB, 0x0E]
  | .rrc_A => [0xCB, 0x0F]
  | .rl_B => [0xCB, 0x10]
  | .rl_C => [0xCB, 0x11]
  | .rl_D => [0xCB, 0x12]
  | .rl_E => [0xCB, 0x13]
  | .rl_H => [0xCB, 0x14]
  | .rl_L => [0xCB, 0x15]
  | .rl_atHL => [0xCB, 0x16]
  | .rl_A => [0xCB, 0x17]
  | .rr_B => [0xCB, 0x18]
  | .rr_C => [0xCB, 0x19]
  | .rr_D => [0xCB, 0x1A]
  | .rr_E => [0xCB, 0x1B]
  | .rr_H => [0xCB, 0x1C]
  | .rr_L => [0xCB, 0x1D]
  | .rr_atHL => [0xCB, 0x1E]
  | .rr_A => [0xCB, 0x1F]
  | .sla_B => [0xCB, 0x20]
  | .sla_C => [0xCB, 0x21]
  | .sla_D => [0xCB, 0x22]
  | .sla_E => [0xCB, 0x23]
  | .sla_H => [0xCB, 0x24]
  | .sla_L => [0xCB, 0x25]
  | .sla_atHL => [0xCB, 0x26]
  | .sla_A => [0xCB, 0x27]
  | .sra_B => [0xCB, 0x28]
  | .sra_C => [0xCB, 0x29]
  | .sra_D => [0xCB, 0x2A]
  | .sra_E => [0xCB, 0x2B]
  | .sra_H => [0xCB, 0x2C]
  | .sra_L => [0xCB, 0x2D]
  | .sra_atHL => [0xCB, 0x2E]
  | .sra_A => [0xCB, 0x2F]
  | .swap_B => [0xCB, 0x30]
  | .swap_C => [0xCB, 0x31]
  | .swap_D => [0xCB, 0x32]
  | .swap_E => [0xCB, 0x33]
  | .swap_H => [0xCB, 0x34]
  | .swap_L => [0xCB, 0x35]
  | .swap_atHL => [0xCB, 0x36]
  | .swap_A => [0xCB, 0x37]
  | .srl_B => [0xCB, 0x38]
  | .srl_C => [0xCB, 0x39]
  | .srl_D => [0xCB, 0x3A]
  | .srl_E => [0xCB, 0x3B]
  | .srl_H => [0xCB, 0x3C]
  | .srl_L => [0xCB, 0x3D]
  | .srl_atHL => [0xCB, 0x3E]
  | .srl_A => [0xCB, 0x3F]
  | .bit_0_B => [0xCB, 0x40]
  | .bit_0_C => [0xCB, 0x41]
  | .bit_0_D => [0xCB, 0x42]
  | .bit_0_E => [0xCB, 0x43]
  | .bit_0_H => [0xCB, 0x44]
  | .bit_0_L => [0xCB, 0x45]
  | .bit_0_atHL => [0xCB, 0x46]
  | .bit_0_A => [0xCB, 0x47]
  | .bit_1_B => [0xCB, 0x48]
  | .bit_1_C => [0xCB, 0x49]
  | .bit_1_D => [0xCB, 0x4A]
  | .bit_1_E => [0xCB, 0x4B]
  | .bit_1_H => [0xCB, 0x4C]
  | .bit_1_L => [0xCB, 0x4D]
  | .bit_1_atHL => [0xCB, 0x4E]
  | .bit_1_A => [0xCB, 0x4F]
  | .bit_2_B => [0xCB, 0x50]
  | .bit_2_C => [0xCB, 0x51]
  | .bit_2_D => [0xCB, 0x52]
  | .bit_2_E => [0xCB, 0x53]
  | .bit_2_H => [0xCB, 0x54]
  | .bit_2_L => [0xCB, 0x55]
  | .bit_2_atHL => [0xCB, 0x56]
  | .bit_2_A => [0xCB, 0x57]
  | .bit_3_B => [0xCB, 0x58]
  | .bit_3_C => [0xCB, 0x59]
  | .bit_3_D => [0xCB, 0x5A]
  | .bit_3_E => [0xCB, 0x5B]
  | .bit_3_H => [0xCB, 0x5C]
  | .bit_3_L => [0xCB, 0x5D]
  | .bit_3_atHL => [0xCB, 0x5E]
  | .bit_3_A => [0xCB, 0x5F]
  | .bit_4_B => [0xCB, 0x60]
  | .bit_4_C => [0xCB, 0x61]
  | .bit_4_D => [0xCB, 0x62]
  | .bit_4_E => [0xCB, 0x63]
  | .bit_4_H => [0xCB, 0x64]
  | .bit_4_L => [0xCB, 0x65]
  | .bit_4_atHL => [0xCB, 0x66]
  | .bit_4_A => [0xCB, 0x67]
  | .bit_5_B => [0xCB, 0x68]
  | .bit_5_C => [0xCB, 0x69]
  | .bit_5_D => [0xCB, 0x6A]
  | .bit_5_E => [0xCB, 0x6B]
  | .bit_5_H => [0xCB, 0x6C]
  | .bit_5_L => [0xCB, 0x6D]
  | .bit_5_atHL => [0xCB, 0x6E]
  | .bit_5_A => [0xCB, 0x6F]
  | .bit_6_B => [0xCB, 0x70]
  | .bit_6_C => [0xCB, 0x71]
  | .bit_6_D => [0xCB, 0x72]
  | .bit_6_E => [0xCB, 0x73]
  | .bit_6_H => [0xCB, 0x74]
  | .bit_6_L => [0xCB, 0x75]
  | .bit_6_atHL => [0xCB, 0x76]
  | .bit_6_A => [0xCB, 0x77]
  | .bit_7_B => [0xCB, 0x78]
  | .bit_7_C => [0xCB, 0x79]
  | .bit_7_D => [0xCB, 0x7A]
  | .bit_7_E => [0xCB, 0x7B]
  | .bit_7_H => [0xCB, 0x7C]
  | .bit_7_L => [0xCB, 0x7D]
  | .bit_7_atHL => [0xCB, 0x7E]
  | .bit_7_A => [0xCB, 0x7F]
  | .res_0_B => [0xCB, 0x80]
  | .res_0_C => [0xCB, 0x81]
  | .res_0_D => [0xCB, 0x82]
  | .res_0_E => [0xCB, 0x83]
  | .res_0_H => [0xCB, 0x84]
  | .res_0_L => [0xCB, 0x85]
  | .res_0_atHL => [0xCB, 0x86]
  | .res_0_A => [0xCB, 0x87]
  | .res_1_B => [0xCB, 0x88]
  | .res_1_C => [0xCB, 0x89]
  | .res_1_D => [0xCB, 0x8A]
  | .res_1_E => [0xCB, 0x8B]
  | .res_1_H => [0xCB, 0x8C]
  | .res_1_L => [0xCB, 0x8D]
  | .res_1_atHL => [0xCB, 0x8E]
  | .res_1_A => [0xCB, 0x8F]
  | .res_2_B => [0xCB, 0x90]
  | .res_2_C => [0xCB, 0x91]
  | .res_2_D => [0xCB, 0x92]
  | .res_2_E => [0xCB, 0x93]
  | .res_2_H => [0xCB, 0x94]
  | .res_2_L => [0xCB, 0x95]
  | .res_2_atHL => [0xCB, 0x96]
  | .res_2_A => [0xCB, 0x97]
  | .res_3_B => [0xCB, 0x98]
  | .res_3_C => [0xCB, 0x99]
  | .res_3_D => [0xCB, 0x9A]
  | .res_3_E => [0xCB, 0x9B]
  | .res_3_H => [0xCB, 0x9C]
  | .res_3_L => [0xCB, 0x9D]
  | .res_3_atHL => [0xCB, 0x9E]
  | .res_3_A => [0xCB, 0x9F]
  | .res_4_B => [0xCB, 0xA0]
  | .res_4_C => [0xCB, 0xA1]
  | .res_4_D => [0xCB, 0xA2]
  | .res_4_E => [0xCB, 0xA3]
  | .res_4_H => [0xCB, 0xA4]
  | .res_4_L => [0xCB, 0xA5]
  | .res_4_atHL => [0xCB, 0xA6]
  | .res_4_A => [0xCB, 0xA7]
  | .res_5_B => [0xCB, 0xA8]
  | .res_5_C => [0xCB, 0xA9]
  | .res_5_D => [0xCB, 0xAA]
  | .res_5_E => [0xCB, 0xAB]
  | .res_5_H => [0xCB, 0xAC]
  | .res_5_L => [0xCB, 0xAD]
  | .res_5_atHL => [0xCB, 0xAE]
  | .res_5_A => [0xCB, 0xAF]
  | .res_6_B => [0xCB, 0xB0]
  | .res_6_C => [0xCB, 0xB1]
  | .res_6_D => [0xCB, 0xB2]
  | .res_6_E => [0xCB, 0xB3]
  | .res_6_H => [0xCB, 0xB4]
  | .res_6_L => [0xCB, 0xB5]
  | .res_6_atHL => [0xCB, 0xB6]
  | .res_6_A => [0xCB, 0xB7]
  | .res_7_B => [0xCB, 0xB8]
  | .res_7_C => [0xCB, 0xB9]
  | .res_7_D => [0xCB, 0xBA]
  | .res_7_E => [0xCB, 0xBB]
  | .res_7_H => [0xCB, 0xBC]
  | .res_7_L => [0xCB, 0xBD]
  | .res_7_atHL => [0xCB, 0xBE]
  | .res_7_A => [0xCB, 0xBF]
  | .set_0_B => [0xCB, 0xC0]
  | .set_0_C => [0xCB, 0xC1]
  | .set_0_D => [0xCB, 0xC2]
  | .set_0_E => [0xCB, 0xC3]
  | .set_0_H => [0xCB, 0xC4]
  | .set_0_L => [0xCB, 0xC5]
  | .set_0_atHL => [0xCB, 0xC6]
  | .set_0_A => [0xCB, 0xC7]
  | .set_1_B => [0xCB, 0xC8]
  | .set_1_C => [0xCB, 0xC9]
  | .set_1_D => [0xCB, 0xCA]
  | .set_1_E => [0xCB, 0xCB]
  | .set_1_H => [0xCB, 0xCC]
  | .set_1_L => [0xCB, 0xCD]
  | .set_1_atHL => [0xCB, 0xCE]
  | .set_1_A => [0xCB, 0xCF]
  | .set_2_B => [0xCB, 0xD0]
  | .set_2_C => [0xCB, 0xD1]
  | .set_2_D => [0xCB, 0xD2]
  | .set_2_E => [0xCB, 0xD3]
  | .set_2_H => [0xCB, 0xD4]
  | .set_2_L => [0xCB, 0xD5]
  | .set_2_atHL => [0xCB, 0xD6]
  | .set_2_A => [0xCB, 0xD7]
  | .set_3_B => [0xCB, 0xD8]
  | .set_3_C => [0xCB, 0xD9]
  | .set_3_D => [0xCB, 0xDA]
  | .set_3_E => [0xCB, 0xDB]
  | .set_3_H => [0xCB, 0xDC]
  | .set_3_L => [0xCB, 0xDD]
  | .set_3_atHL => [0xCB, 0xDE]
  | .set_3_A => [0xCB, 0xDF]
  | .set_4_B => [0xCB, 0xE0]
  | .set_4_C => [0xCB, 0xE1]
  | .set_4_D => [0xCB, 0xE2]
  | .set_4_E => [0xCB, 0xE3]
  | .set_4_H => [0xCB, 0xE4]
  | .set_4_L => [0xCB, 0xE5]
  | .set_4_atHL => [0xCB, 0xE6]
  | .set_4_A => [0xCB, 0xE7]
  | .set_5_B => [0xCB, 0xE8]
  | .set_5_C => [0xCB, 0xE9]
  | .set_5_D => [0xCB, 0xEA]
  | .set_5_E => [0xCB, 0xEB]
  | .set_5_H => [0xCB, 0xEC]
  | .set_5_L => [0xCB, 0xED]
  | .set_5_atHL => [0xCB, 0xEE]
  | .set_5_A => [0xCB, 0xEF]
  | .set_6_B => [0xCB, 0xF0]
  | .set_6_C => [0xCB, 0xF1]
  | .set_6_D => [0xCB, 0xF2]
  | .set_6_E => [0xCB, 0xF3]
  | .set_6_H => [0xCB, 0xF4]
  | .set_6_L => [0xCB, 0xF5]
  | .set_6_atHL => [0xCB, 0xF6]
  | .set_6_A => [0xCB, 0xF7]
  | .set_7_B => [0xCB, 0xF8]
  | .set_7_C => [0xCB, 0xF9]
  | .set_7_D => [0xCB, 0xFA]
  | .set_7_E => [0xCB, 0xFB]
  | .set_7_H => [0xCB, 0xFC]
  | .set_7_L => [0xCB, 0xFD]
  | .set_7_atHL => [0xCB, 0xFE]
  | .set_7_A => [0xCB, 0xFF]

end Sys2Proof
end

