-- ==== Sys2Proof/Config.lean ====
section
/-! DEFINITION. What an implementation fixes: the named parameters of 00_scope.md rule R7, each at the default the spec
decides, and the inputs of a launch that are functions of an address (INIT_MEM, ROM_PAD) or a table (LOGO). A running
machine carries its `Params` in `State.params`, which no step changes, so that a statement over all states holds for
every legal choice of the parameters. -/

namespace Sys2Proof

/-- `EI_DELAY` of R7: the number of step starts after EI before IME becomes 1; its two legal values (D5). -/
inductive EiDelay where
  | one
  | two
deriving DecidableEq, Repr

/-- `STOP_MODE` of R7: what STOP does after consuming its bytes (D12). -/
inductive StopMode where
  | nop
  | hang
deriving DecidableEq, Repr

/-- `TIMER_PERIOD[k]` of R7 for k = TAC[1:0]: the legal values are powers of two, so the field holds the exponent
(DEDUCED, safe, notes/assumptions/12.md). -/
structure TimerExponents where
  k0 : Nat
  k1 : Nat
  k2 : Nat
  k3 : Nat
deriving DecidableEq, Repr

/-- The parameters of R7 that a running core reads, carried in the state (DESIGN CHOICE, safe, notes/assumptions/1.md). -/
structure Params where
  eiDelay     : EiDelay
  stopMode    : StopMode
  timer       : TimerExponents
  counterBits : Nat
  maxSteps    : Option Nat
deriving DecidableEq, Repr

/-- The defaults of R7: `EI_DELAY = 1`, `STOP_MODE = NOP`, `TIMER_PERIOD = 1024, 16, 64, 256`, `COUNTER_BITS = 64`, no
`MAX_STEPS`. -/
def Params.default : Params :=
  { eiDelay := .one, stopMode := .nop, timer := { k0 := 10, k1 := 4, k2 := 6, k3 := 8 }, counterBits := 64,
    maxSteps := none }

/-- The legal values of R7: `TIMER_PERIOD[1]` is the smallest period and `COUNTER_BITS` is at least 10; nothing enforces them
(notes/assumptions/12.md). -/
def Params.legal (p : Params) : Bool :=
  decide (p.timer.k1 ≤ p.timer.k0) && decide (p.timer.k1 ≤ p.timer.k2) && decide (p.timer.k1 ≤ p.timer.k3) &&
    decide (10 ≤ p.counterBits)

/-- The 48 bytes of the logo constant at 0x0104 to 0x0133 (R170). -/
def Config.standardLogo : List Byte :=
  [0xCE, 0xED, 0x66, 0x66, 0xCC, 0x0D, 0x00, 0x0B, 0x03, 0x73, 0x00, 0x83, 0x00, 0x0C, 0x00, 0x0D] ++
  [0x00, 0x08, 0x11, 0x1F, 0x88, 0x89, 0x00, 0x0E, 0xDC, 0xCC, 0x6E, 0xE6, 0xDD, 0xDD, 0xD9, 0x99] ++
  [0xBB, 0xBB, 0x67, 0x63, 0x6E, 0x0E, 0xEC, 0xCC, 0xDD, 0xDC, 0x99, 0x9F, 0xBB, 0xB9, 0x33, 0x3E]

/-- What a launch (R168) is given beside the image: the running parameters, the reset content `INIT_MEM(a)` of every
writable byte, the byte `ROM_PAD(a)` past the end of a short image, and the constant the logo is compared with. -/
structure LaunchConfig where
  params  : Params
  initMem : Nat → Byte
  romPad  : Nat → Byte
  logo    : List Byte

/-- The defaults of R7 and R170: the parameters' defaults, `INIT_MEM` and `ROM_PAD` zero as in a simulator (D24, D25), the
standard logo. -/
def LaunchConfig.default : LaunchConfig :=
  { params := Params.default, initMem := fun _ => 0, romPad := fun _ => 0, logo := Config.standardLogo }

end Sys2Proof
end

