-- ==== Sys2Proof/Machine/State.lean ====
section
/-! DEFINITION. The state of the machine as plain data: everything 10_state.md gives it (R14 to R35), with the host-side
records of 70_reset_and_hazards.md (R174 to R177) and 60_exceptions.md (R147) beside it, the running parameters of R7, and
the state after reset (R36). -/

namespace Sys2Proof.Machine

/-- The names of the eight 8-bit registers (R14). -/
inductive Reg8 where
  | a | f | b | c | d | e | h | l
deriving DecidableEq, Repr

/-- The register file (R14); the pairs AF, BC, DE, HL are views of it, not storage (R15). -/
structure Regs where
  a : Byte
  f : Byte
  b : Byte
  c : Byte
  d : Byte
  e : Byte
  h : Byte
  l : Byte
deriving DecidableEq, Repr

/-- `IllegalOpcode(addr, byte)`, the one fault record of the core (R28, R145). -/
structure IllegalOpcode where
  addr : Word
  byte : Byte
deriving DecidableEq, Repr

/-- The memory behind the bus (R34): the ROM snapshot and every writable cell, as (address, byte) pairs in the canonical
form of `Memory.wf`; an address that is not listed holds 0x00 (D24, D25). -/
abbrev Memory := List Host.Cell

/-- The two words that end a run (R175). -/
inductive EndWord where
  | passed
  | failed
deriving DecidableEq, Repr

/-- The kinds of a diagnostic warning (R147). -/
inductive WarningKind where
  | romWrite
  | unmapped
  | prohibited
deriving DecidableEq, Repr

/-- `warn(kind, address)`: a host-visible diagnostic (R147). -/
structure Warning where
  kind : WarningKind
  addr : Word
deriving DecidableEq, Repr

/-- The fields of one trace line (R176): the register file, SP, PC and the four bytes from PC on. -/
structure TraceLine where
  regs : Regs
  sp   : Word
  pc   : Word
  mem  : List Byte
deriving DecidableEq, Repr

/-- What the host holds during a run (R35, R173): the serial word buffer, the bytes echoed, the end it was asked for
(R174, R175), the trace lines (R176) and the warnings (R147) in the order they came, and how many steps have run (R177).
Lists grow at their end. (DESIGN CHOICE, safe, notes/assumptions/7.md and 8.md.) -/
structure Console where
  wordBuffer   : List Byte
  echoed       : List Byte
  endRequested : Option EndWord
  trace        : List TraceLine
  warnings     : List Warning
  stepsRun     : Nat
deriving DecidableEq, Repr

/-- The state of the machine. -/
structure State where
  /-- The register file (R14). -/
  regs     : Regs
  /-- The stack pointer (R17). -/
  sp       : Word
  /-- The address of the next byte the core fetches (R18). -/
  pc       : Word
  /-- The interrupt master enable (R24). -/
  ime      : Bool
  /-- The pending request of EI: 0, 1 or 2 step starts (R25). -/
  eiCount  : Fin 3
  /-- Waiting for an interrupt request (R26). -/
  halted   : Bool
  /-- Stopped for good, with `STOP_MODE = HANG` only (R27). -/
  stopped  : Bool
  /-- The fault, once one is raised (R28). -/
  fault    : Option IllegalOpcode
  /-- The free-running step counter of the timer, below 2^COUNTER_BITS (R29; DEDUCED, safe, notes/assumptions/13.md). -/
  counter  : Nat
  /-- The counter's value at the last increment of TIMA (R29). -/
  lastTick : Nat
  /-- The bus-owned memory with the I/O cells IF, IE, TIMA, TMA, TAC, SB, SC among it (R30 to R34; DESIGN CHOICE, safe,
  notes/assumptions/14.md). -/
  mem      : Memory
  /-- The host's side (R35). -/
  console  : Console
  /-- The parameters of R7; no step changes them. -/
  params   : Params
deriving DecidableEq, Repr

/-- Why the machine takes no step (R146, R177): each is an end of the run that the spec names, so that answering it is
safe: no state follows in the hardware either. They are raised by `State.endOfRun` at the start of a step, never by an
instruction. -/
inductive Fault where
  /-- A core with `fault` set takes no further step (R146); raised by `State.endOfRun`; safe. -/
  | illegalOpcode (info : IllegalOpcode)
  /-- The serial word "Passed" ended the run (R175, R177); raised by `State.endOfRun`; safe. -/
  | passed
  /-- The serial word "Failed" ended the run (R175, R177); raised by `State.endOfRun`; safe. -/
  | failed
  /-- STOP with `STOP_MODE = HANG`: no step is enabled (R139, R177); raised by `State.endOfRun`; safe. -/
  | stopped
  /-- `MAX_STEPS` steps have run (R177); raised by `State.endOfRun`; safe. -/
  | outOfFuel
deriving DecidableEq, Repr

/-- Why an instruction has no meaning. -/
inductive Refusal where
  /-- The instruction is not modelled; it could be raised by an arm of `exec` only, and no arm raises it; safe. -/
  | notModelled (mnemonic : String)
deriving DecidableEq, Repr

/-- The host's side at launch: an empty word buffer and empty logs (R36, R168). -/
def Console.empty : Console :=
  { wordBuffer := [], echoed := [], endRequested := none, trace := [], warnings := [], stepsRun := 0 }

/-- The register file after reset (R36; PRESUMED by the spec, unsafe, notes/assumptions/4.md). -/
def Regs.reset : Regs :=
  { a := 0x01, f := 0xB0, b := 0x00, c := 0x13, d := 0x00, e := 0xD8, h := 0x01, l := 0x4D }

/-- A machine with the reset values of R36 and R168, given its parameters and what the launch puts behind the bus. -/
def State.atLaunch (params : Params) (mem : Memory) : State :=
  { regs := Regs.reset, sp := 0xFFFE, pc := 0x0100, ime := false, eiCount := 0, halted := false, stopped := false,
    fault := none, counter := 0, lastTick := 0, mem := mem, console := Console.empty, params := params }

/-- The machine after reset (R36): the default parameters, every writable byte `INIT_MEM(a) = 0x00`, and no image's bytes in
the ROM snapshot (every ROM byte reads `ROM_PAD(a) = 0x00`). `launch` (Machine/Launch.lean) puts an image there. (DESIGN CHOICE, notes/assumptions/2.md and 3.md.) -/
def State.reset : State := State.atLaunch Params.default []

end Sys2Proof.Machine
end

