-- ==== Sys2Proof/Machine/Ops.lean ====
section
/-! DEFINITION. The named operations: the canonical memory, the accessors of the state (every register has one home and is
read and written here), the bus router of 20_memory.md, the stack primitives, the host-side records, taking the
illegal-opcode fault, taking an interrupt and returning from one. -/

namespace Sys2Proof.Machine

/-! ### The canonical memory -/

/-- What an address that is not listed holds: the byte that a simulator gives `INIT_MEM(a)` and `ROM_PAD(a)` (R7, D24, D25;
DESIGN CHOICE, unsafe, notes/assumptions/2.md). -/
@[simp] def Memory.unlisted : Byte := 0

/-- Whether the addresses rise strictly from one entry to the next and no entry holds what an unlisted address holds: the one
form a memory's contents have. -/
def Memory.wf : Memory → Bool
  | [] => true
  | (_, v) :: [] => v != Memory.unlisted
  | (k, v) :: (k', v') :: m => v != Memory.unlisted && decide (k < k') && Memory.wf ((k', v') :: m)

/-- The byte at an address. -/
def Memory.read : Memory → Nat → Byte
  | [], _ => Memory.unlisted
  | (k, v) :: m, a => if k = a then v else Memory.read m a

/-- The memory with byte `v` at address `a`, in canonical form again. -/
def Memory.write : Memory → Nat → Byte → Memory
  | [], a, v => if v = Memory.unlisted then [] else [(a, v)]
  | (k, w) :: m, a, v =>
    if a < k then (if v = Memory.unlisted then (k, w) :: m else (a, v) :: (k, w) :: m)
    else if k = a then (if v = Memory.unlisted then m else (a, v) :: m)
    else (k, w) :: Memory.write m a v

/-- The canonical memory that holds `f a` at each address below `n`, in front of `m`. -/
@[irreducible] def Memory.tabulate (f : Nat → Byte) : Nat → Memory → Memory
  | 0, m => m
  | n + 1, m => Memory.tabulate f n (if f n = Memory.unlisted then m else (n, f n) :: m)

/-! ### Registers -/

/-- The register file's byte of a name; F's bits 3:0 read as 0 (R21). -/
def Regs.get (r : Regs) : Reg8 → Byte
  | .a => r.a
  | .f => r.f &&& 0xF0
  | .b => r.b
  | .c => r.c
  | .d => r.d
  | .e => r.e
  | .h => r.h
  | .l => r.l

/-- The register file with a register written; a write of F stores `v & 0xF0` (R21). -/
def Regs.set (r : Regs) (n : Reg8) (v : Byte) : Regs :=
  match n with
  | .a => { r with a := v }
  | .f => { r with f := v &&& 0xF0 }
  | .b => { r with b := v }
  | .c => { r with c := v }
  | .d => { r with d := v }
  | .e => { r with e := v }
  | .h => { r with h := v }
  | .l => { r with l := v }

/-- Reading an 8-bit register (R9, R21). -/
def State.reg (s : State) (r : Reg8) : Byte := s.regs.get r

/-- Writing an 8-bit register (R9, R21). -/
def State.setReg (s : State) (r : Reg8) (v : Byte) : State := { s with regs := s.regs.set r v }

/-- Writing SP (R17). -/
def State.setSP (s : State) (v : Word) : State := { s with sp := v }

/-- Writing PC (R18). -/
def State.setPC (s : State) (v : Word) : State := { s with pc := v }

/-- Writing the master enable (R24). -/
def State.setIME (s : State) (b : Bool) : State := { s with ime := b }

/-- Writing the pending request of EI (R25). -/
def State.setEiCount (s : State) (n : Fin 3) : State := { s with eiCount := n }

/-- Entering or leaving the halted state (R26). -/
def State.setHalted (s : State) (b : Bool) : State := { s with halted := b }

/-- Entering the stopped state (R27). -/
def State.setStopped (s : State) (b : Bool) : State := { s with stopped := b }

/-- Recording the fault (R28). -/
def State.setFault (s : State) (f : Option IllegalOpcode) : State := { s with fault := f }

/-- Writing the timer's step counter (R29). -/
def State.setCounter (s : State) (n : Nat) : State := { s with counter := n }

/-- Writing the timer's last tick (R29). -/
def State.setLastTick (s : State) (n : Nat) : State := { s with lastTick := n }

/-- Replacing the memory. -/
def State.setMem (s : State) (m : Memory) : State := { s with mem := m }

/-- Replacing the host's records. -/
def State.setConsole (s : State) (k : Console) : State := { s with console := k }

/-- The pair of two registers, the first its high byte (R15). -/
def State.pair (s : State) (hi lo : Reg8) : Word := Word.ofBytes (s.reg hi) (s.reg lo)

/-- Writing both halves of a pair (R15). -/
def State.setPair (s : State) (hi lo : Reg8) (v : Word) : State := (s.setReg hi v.hiByte).setReg lo v.loByte

/-- The pair HL (R15). -/
def State.hl (s : State) : Word := s.pair .h .l

/-- Writing HL (R15). -/
def State.setHL (s : State) (v : Word) : State := s.setPair .h .l v

/-! ### The address map -/

/-- The regions of the address space (R38). -/
inductive Region where
  | rom0 | rom1 | vram | cartRam | workRam | unmapped | oam | prohibited | io | highRam | ie
deriving DecidableEq, Repr

/-- The region of an address: the rows of R38 in order. -/
def Region.of (a : Word) : Region :=
  if a.toNat ≤ 0x3FFF then .rom0
  else if a.toNat ≤ 0x7FFF then .rom1
  else if a.toNat ≤ 0x9FFF then .vram
  else if a.toNat ≤ 0xBFFF then .cartRam
  else if a.toNat ≤ 0xDFFF then .workRam
  else if a.toNat ≤ 0xFDFF then .unmapped
  else if a.toNat ≤ 0xFE9F then .oam
  else if a.toNat ≤ 0xFEFF then .prohibited
  else if a.toNat ≤ 0xFF7F then .io
  else if a.toNat ≤ 0xFFFE then .highRam
  else .ie

/-- What an access to a region finds (the read and write columns of R38). -/
inductive RegionKind where
  | rom | cells | unmapped | prohibited
deriving DecidableEq, Repr

/-- The kind of a region (R38). -/
def Region.kind : Region → RegionKind
  | .rom0 => .rom
  | .rom1 => .rom
  | .vram => .cells
  | .cartRam => .cells
  | .workRam => .cells
  | .unmapped => .unmapped
  | .oam => .cells
  | .prohibited => .prohibited
  | .io => .cells
  | .highRam => .cells
  | .ie => .cells

/-- Whether an address lies in a region whose cells a write stores to (R38). -/
def writable (a : Word) : Bool := (Region.of a).kind = .cells

/-- Whether the bus owns a byte at an address, ROM or cell (R34, R38). -/
def backed (a : Word) : Bool := (Region.of a).kind = .cells || (Region.of a).kind = .rom

/-- The interrupt flag register IF (R30). -/
def addrIF : Word := 0xFF0F
/-- The interrupt enable register IE (R30). -/
def addrIE : Word := 0xFFFF
/-- The timer counter TIMA (R31). -/
def addrTIMA : Word := 0xFF05
/-- The timer modulo TMA (R31). -/
def addrTMA : Word := 0xFF06
/-- The timer control TAC (R31). -/
def addrTAC : Word := 0xFF07
/-- The serial data register SB (R32). -/
def addrSB : Word := 0xFF01
/-- The serial control register SC (R32). -/
def addrSC : Word := 0xFF02

/-! ### The host's records -/

/-- `warn(kind, addr)` (R11, R147). -/
def State.warn (s : State) (k : WarningKind) (a : Word) : State :=
  s.setConsole { s.console with warnings := s.console.warnings ++ [{ kind := k, addr := a }] }

/-- The bytes of the two end words, ASCII (R175). -/
def EndWord.bytes : EndWord → List Byte
  | .passed => [0x50, 0x61, 0x73, 0x73, 0x65, 0x64]
  | .failed => [0x46, 0x61, 0x69, 0x6C, 0x65, 0x64]

/-- Which end word a buffer is, if it is one (R175). -/
def EndWord.ofBuffer (buf : List Byte) : Option EndWord :=
  if buf = EndWord.passed.bytes then some .passed
  else if buf = EndWord.failed.bytes then some .failed
  else none

/-- `SerialEvent(b)` on the host's records (R175): echo the byte; a space or newline clears the word buffer, any other byte is
appended to it and the buffer compared with the end words. -/
def Console.serial (k : Console) (b : Byte) : Console :=
  if b = 0x20 ∨ b = 0x0A then { k with echoed := k.echoed ++ [b], wordBuffer := [] }
  else
    { k with
      echoed := k.echoed ++ [b]
      wordBuffer := k.wordBuffer ++ [b]
      endRequested :=
        match EndWord.ofBuffer (k.wordBuffer ++ [b]) with
        | some w => some w
        | none => k.endRequested }

/-- `SerialEvent(b)` (R174, R175). -/
def State.serialEvent (s : State) (b : Byte) : State := s.setConsole (s.console.serial b)

/-! ### The bus router -/

/-- The cell or ROM byte at an address, as stored: what the timer and the interrupt controller read (R37). -/
def State.cell (s : State) (a : Word) : Byte := s.mem.read a.toNat

/-- A direct change of a cell, past the bus: no warning and no serial event (R37, D37). -/
def State.setCell (s : State) (a : Word) (v : Byte) : State := s.setMem (s.mem.write a.toNat v)

/-- The value of `MemRead(a, 1)` (R40). -/
def State.memRead (s : State) (a : Word) : Byte :=
  match (Region.of a).kind with
  | .rom => s.cell a
  | .cells => s.cell a
  | .unmapped => 0x00
  | .prohibited => 0x00

/-- What `MemRead(a, 1)` leaves behind: the warning of R40, if the address has one, and nothing else. -/
def State.noteRead (s : State) (a : Word) : State :=
  match (Region.of a).kind with
  | .rom => s
  | .cells => s
  | .unmapped => s.warn .unmapped a
  | .prohibited => s.warn .prohibited a

/-- `MemWrite(a, 1, v)` (R41), with the serial event of a write of 0x81 to 0xFF02 (R32, R174). -/
def State.memWrite (s : State) (a : Word) (v : Byte) : State :=
  match (Region.of a).kind with
  | .rom => s.warn .romWrite a
  | .unmapped => s.warn .unmapped a
  | .prohibited => s.warn .prohibited a
  | .cells =>
    if a = addrSC ∧ v = 0x81 then (s.setCell a v).serialEvent ((s.setCell a v).cell addrSB)
    else s.setCell a v

/-- `read_range(start, length)` (R43): the composition of single-byte reads, addresses wrapping; the
trace uses it, without warnings (R176). -/
def State.readRange (s : State) (start : Word) : Nat → List Byte
  | 0 => []
  | n + 1 => s.memRead start :: s.readRange (start + 1) n

/-! ### The stack -/

/-- `Push16(v)` (R47): the high byte first, each after a decrement of SP. -/
def State.push16 (s : State) (v : Word) : State :=
  (((s.setSP (s.sp - 1)).memWrite (s.sp - 1) v.hiByte).setSP (s.sp - 2)).memWrite (s.sp - 2) v.loByte

/-- The value of `Pop16()` (R48): the low byte from SP, the high byte from SP + 1. -/
def State.popValue (s : State) : Word := Word.ofBytes (s.memRead (s.sp + 1)) (s.memRead s.sp)

/-- What `Pop16()` leaves behind (R48): SP two higher, and the two reads' warnings. -/
def State.popped (s : State) : State := ((s.noteRead s.sp).noteRead (s.sp + 1)).setSP (s.sp + 2)

/-! ### Fault, interrupt entry and return -/

/-- `raise IllegalOpcode(addr = PC - 1, byte)` (R143, R145): PC is behind the byte already. The state it leaves is a next state
(DEDUCED, safe, notes/assumptions/5.md). -/
def State.raiseIllegalOpcode (s : State) (byte : Byte) : State :=
  s.setFault (some { addr := s.pc - 1, byte := byte })

/-- The five interrupt sources (R150). -/
inductive IrqSource where
  | vblank | lcdStat | timer | serial | joypad
deriving DecidableEq, Repr

/-- The mask of a source's bit in IF and IE (R150). -/
def IrqSource.mask : IrqSource → Byte
  | .vblank => 0x01
  | .lcdStat => 0x02
  | .timer => 0x04
  | .serial => 0x08
  | .joypad => 0x10

/-- The fixed vector of a source (R150, R156). -/
def IrqSource.vector : IrqSource → Word
  | .vblank => 0x0040
  | .lcdStat => 0x0048
  | .timer => 0x0050
  | .serial => 0x0058
  | .joypad => 0x0060

/-- `Service(i)` (R156): IME and a pending EI cleared, PC pushed, the source's bit cleared in IF as it is after the push, PC
at the vector. The push is a pair of bus writes like any other (DEDUCED, unsafe, notes/assumptions/9.md). -/
def State.service (s : State) (i : IrqSource) : State :=
  let t := ((s.setIME false).setEiCount 0).push16 s.pc
  (t.setCell addrIF (t.cell addrIF &&& ~~~ i.mask)).setPC i.vector

/-- The return from an interrupt handler (R134): PC popped, IME set at once, a pending EI cleared. -/
def State.returnFromInterrupt (s : State) : State :=
  ((s.popped.setPC s.popValue).setIME true).setEiCount 0

end Sys2Proof.Machine
end

