-- ==== Sys2Proof/Machine/Flags.lean ====
section
/-! DEFINITION. The flags of F (R19 to R21) and every result and flag computation the spec gives: the 8-bit adder and
subtractor with their half and full carries (R89 to R98), increment and decrement (R99, R100), the decimal adjustment
(R101), the 16-bit adders (R107 to R109), the rotates and shifts (R110 to R121). Additions and subtractions are exact
numbers first, as R89 says, and narrowed at the end. -/

namespace Sys2Proof.Machine

/-- The four flags (R19). -/
inductive Flag where
  | z | n | h | c
deriving DecidableEq, Repr

/-- The bit of F a flag is (R19). -/
def Flag.bit : Flag → Nat
  | .z => 7
  | .n => 6
  | .h => 5
  | .c => 4

/-- `F.Z`, `F.N`, `F.H`, `F.C` (R9). -/
def State.flag (s : State) (k : Flag) : Bool := (s.reg .f).getLsbD k.bit

/-- The byte of F with the four flags given: Z, N, H, C in bits 7 to 4, zeros below (R19, R21). -/
def packFlags (z n h c : Bool) : Byte :=
  BitVec.ofBool z ++ BitVec.ofBool n ++ BitVec.ofBool h ++ BitVec.ofBool c ++ (0 : BitVec 4)

/-- Writing all four flags. -/
def State.setFlags (s : State) (z n h c : Bool) : State := s.setReg .f (packFlags z n h c)

/-- The low nibble of a byte as a number, `v[3:0]` (R8). -/
def lowNibble (v : Byte) : Nat := v.toNat % 16

/-- A result byte with the carries that came with it. -/
structure Sum8 where
  value : Byte
  half  : Bool
  carry : Bool
deriving DecidableEq, Repr

/-- `a + v + c` with the carries out of bits 3 and 7 (R91, R92). -/
def add8 (a v : Byte) (c : Bool) : Sum8 :=
  { value := BitVec.ofNat 8 (a.toNat + v.toNat + c.toNat)
    half  := decide (lowNibble a + lowNibble v + c.toNat > 0xF)
    carry := decide (a.toNat + v.toNat + c.toNat > 0xFF) }

/-- `a - v - c` with the borrows into bits 4 and 8 (R93, R94). -/
def sub8 (a v : Byte) (c : Bool) : Sum8 :=
  { value := BitVec.ofInt 8 ((a.toNat : Int) - v.toNat - c.toNat)
    half  := decide (lowNibble a < lowNibble v + c.toNat)
    carry := decide (a.toNat < v.toNat + c.toNat) }

/-- The result of an accumulator operation and the whole new F; for CP the byte is compared only (R91 to R98). -/
def aluResult (op : AluOp) (a v : Byte) (c : Bool) : Byte × Byte :=
  match op with
  | .add => let r := add8 a v false; (r.value, packFlags (r.value == 0) false r.half r.carry)
  | .adc => let r := add8 a v c; (r.value, packFlags (r.value == 0) false r.half r.carry)
  | .sub => let r := sub8 a v false; (r.value, packFlags (r.value == 0) true r.half r.carry)
  | .sbc => let r := sub8 a v c; (r.value, packFlags (r.value == 0) true r.half r.carry)
  | .and => let r := a &&& v; (r, packFlags (r == 0) false true false)
  | .xor => let r := a ^^^ v; (r, packFlags (r == 0) false false false)
  | .or => let r := a ||| v; (r, packFlags (r == 0) false false false)
  | .cp => let r := sub8 a v false; (r.value, packFlags (r.value == 0) true r.half r.carry)

/-- Whether an operation writes A: all but CP (R90, R98). -/
def aluWritesA : AluOp → Bool
  | .cp => false
  | _ => true

/-- The byte and F of `INC r8` (R99); C is kept. -/
def incResult (v : Byte) (c : Bool) : Byte × Byte :=
  let r := v + 1
  (r, packFlags (r == 0) false (lowNibble v == 0xF) c)

/-- The byte and F of `DEC r8` (R100); C is kept. -/
def decResult (v : Byte) (c : Bool) : Byte × Byte :=
  let r := v - 1
  (r, packFlags (r == 0) true (lowNibble v == 0x0) c)

/-- Whether DAA corrects the low nibble (R101). -/
def daaLow (a : Byte) (n h : Bool) : Bool := h || (!n && decide (lowNibble a > 0x9))

/-- Whether DAA corrects the high nibble, which is also the new C (R101). -/
def daaHigh (a : Byte) (n c : Bool) : Bool := c || (!n && decide (a.toNat > 0x99))

/-- A and F of DAA (R101); N is kept. -/
def daaResult (a : Byte) (n h c : Bool) : Byte × Byte :=
  let corr : Byte := (if daaLow a n h then 0x06 else 0x00) ||| (if daaHigh a n c then 0x60 else 0x00)
  let r := if n then a - corr else a + corr
  (r, packFlags (r == 0) n false (daaHigh a n c))

/-- `sext_16(b)` (R8). -/
def sext16 (b : Byte) : Word := b.signExtend 16

/-- HL and F of `ADD HL,r16` (R107): carries out of bits 11 and 15, Z kept. -/
def addHLResult (hl v : Word) (z : Bool) : Word × Byte :=
  (BitVec.ofNat 16 (hl.toNat + v.toNat),
   packFlags z false (decide (hl.toNat % 0x1000 + v.toNat % 0x1000 > 0xFFF)) (decide (hl.toNat + v.toNat > 0xFFFF)))

/-- The word and F of `ADD SP,e8` and `LD HL,SP+e8` (R108, R109): SP plus the signed offset, the flags from the unsigned
addition of the offset byte to SP's low byte. -/
def addSPResult (sp : Word) (e : Byte) : Word × Byte :=
  (sp + sext16 e,
   packFlags false false (decide (sp.toNat % 16 + lowNibble e > 0xF)) (decide (sp.toNat % 256 + e.toNat > 0xFF)))

/-- The result and the bit shifted out of each rotate and shift (R114 to R121; for SWAP no bit is, and C is 0). -/
def rotResult (op : RotOp) (v : Byte) (c : Bool) : Byte × Bool :=
  let b7 := v.getLsbD 7
  let b0 := v.getLsbD 0
  let low (b : Bool) : Byte := (BitVec.ofBool b).setWidth 8
  let high (b : Bool) : Byte := low b <<< 7
  match op with
  | .rlc => ((v <<< 1) ||| low b7, b7)
  | .rrc => ((v >>> 1) ||| high b0, b0)
  | .rl => ((v <<< 1) ||| low c, b7)
  | .rr => ((v >>> 1) ||| high c, b0)
  | .sla => (v <<< 1, b7)
  | .sra => ((v >>> 1) ||| (v &&& 0x80), b0)
  | .swap => ((v <<< 4) ||| (v >>> 4), false)
  | .srl => (v >>> 1, b0)

/-- The mask `1 << b` of a bit index (R63). -/
def bitMask (b : Fin 8) : Byte := (1 : Byte) <<< b.val

end Sys2Proof.Machine
end

