-- ==== Sys2Proof/Machine/Operands.lean ====
section
/-! DEFINITION. Every operand form: the tables of 30_encoding.md (R55 to R59) read and written on the state, and the
addresses of the high page (R63). An operand read has a value (`read…`) and, where it goes through the bus, the warning it
leaves behind (`note…`, R40). -/

namespace Sys2Proof.Machine

/-- The register that an r8 operand names; none for [HL] (R55). -/
def r8Direct : R8 → Option Reg8
  | .b => some .b
  | .c => some .c
  | .d => some .d
  | .e => some .e
  | .h => some .h
  | .l => some .l
  | .atHL => none
  | .a => some .a

/-- The value of `ReadR8(i)` (R55). -/
def State.readR8 (s : State) (i : R8) : Byte :=
  match r8Direct i with
  | some r => s.reg r
  | none => s.memRead s.hl

/-- What `ReadR8(i)` leaves behind: for [HL], the bus read's warning (R40, R55). -/
def State.noteR8 (s : State) (i : R8) : State :=
  match r8Direct i with
  | some _ => s
  | none => s.noteRead s.hl

/-- `WriteR8(i, v)` (R55). -/
def State.writeR8 (s : State) (i : R8) (v : Byte) : State :=
  match r8Direct i with
  | some r => s.setReg r v
  | none => s.memWrite s.hl v

/-- `ReadR16(p)` (R56). -/
def State.readR16 (s : State) (p : R16) : Word :=
  match p with
  | .bc => s.pair .b .c
  | .de => s.pair .d .e
  | .hl => s.hl
  | .sp => s.sp

/-- `WriteR16(p, v)` (R56). -/
def State.writeR16 (s : State) (p : R16) (v : Word) : State :=
  match p with
  | .bc => s.setPair .b .c v
  | .de => s.setPair .d .e v
  | .hl => s.setHL v
  | .sp => s.setSP v

/-- `ReadR16stk(p)` (R57). -/
def State.readR16stk (s : State) (p : R16stk) : Word :=
  match p with
  | .bc => s.pair .b .c
  | .de => s.pair .d .e
  | .hl => s.hl
  | .af => s.pair .a .f

/-- `WriteR16stk(p, v)` (R57): for AF the write of F is masked (R21). -/
def State.writeR16stk (s : State) (p : R16stk) (v : Word) : State :=
  match p with
  | .bc => s.setPair .b .c v
  | .de => s.setPair .d .e v
  | .hl => s.setHL v
  | .af => s.setPair .a .f v

/-- `Cond(cc)` (R58). -/
def State.cond (s : State) (cc : Cond) : Bool :=
  match cc with
  | .nz => !s.flag .z
  | .z => s.flag .z
  | .nc => !s.flag .c
  | .c => s.flag .c

/-- `MemAddr(p)` (R59). -/
def State.memAddr (s : State) (p : R16mem) : Word :=
  match p with
  | .atBC => s.pair .b .c
  | .atDE => s.pair .d .e
  | .atHLi => s.hl
  | .atHLd => s.hl

/-- `PostAdjust(p)` (R59). -/
def State.postAdjust (s : State) (p : R16mem) : State :=
  match p with
  | .atBC => s
  | .atDE => s
  | .atHLi => s.setHL (s.hl + 1)
  | .atHLd => s.setHL (s.hl - 1)

/-- The high-page address `0xFF00 + n` (R63). -/
def highPage (n : Byte) : Word := Word.ofBytes 0xFF n

/-- The restart address `t * 8` (R63, R135). -/
def restartAddr (t : Fin 8) : Word := BitVec.ofNat 16 (t.val * 8)

/-- The target `trunc_16(PC + sext_16(e))` of a relative jump, PC behind the instruction (R63, R128). -/
def State.relative (s : State) (e : Byte) : Word := s.pc + sext16 e

end Sys2Proof.Machine
end

