-- ==== Sys2Proof/Machine/Alu16.lean ====
section
/-! DEFINITION. 16-bit arithmetic of 43_alu16.md (R105 to R109). The operations that the
instructions share come first, then one meaning for each row of the table. -/

namespace Sys2Proof.Machine

/-- `INC r16` (R105): no flag. -/
def State.inc16 (s : State) (p : R16) : State := s.writeR16 p (s.readR16 p + 1)

/-- `DEC r16` (R106): no flag. -/
def State.dec16 (s : State) (p : R16) : State := s.writeR16 p (s.readR16 p - 1)

/-- `ADD HL,r16` (R107). -/
def State.addHL (s : State) (p : R16) : State :=
  let o := addHLResult s.hl (s.readR16 p) (s.flag .z)
  (s.setHL o.1).setReg .f o.2

/-- `ADD SP,e8` (R108). -/
def State.addSP (s : State) (e : Byte) : State :=
  let o := addSPResult s.sp e
  (s.setSP o.1).setReg .f o.2

/-- `LD HL,SP+e8` (R109). -/
def State.ldHLSP (s : State) (e : Byte) : State :=
  let o := addSPResult s.sp e
  (s.setHL o.1).setReg .f o.2

/-! ### One meaning for each instruction -/

/-- `INC BC` (R105). -/
def execInc_BC (s : State) : Host.Outcome State Fault Refusal := .next (s.inc16 .bc)

/-- `ADD HL,BC` (R107). -/
def execAdd_HL_BC (s : State) : Host.Outcome State Fault Refusal := .next (s.addHL .bc)

/-- `DEC BC` (R106). -/
def execDec_BC (s : State) : Host.Outcome State Fault Refusal := .next (s.dec16 .bc)

/-- `INC DE` (R105). -/
def execInc_DE (s : State) : Host.Outcome State Fault Refusal := .next (s.inc16 .de)

/-- `ADD HL,DE` (R107). -/
def execAdd_HL_DE (s : State) : Host.Outcome State Fault Refusal := .next (s.addHL .de)

/-- `DEC DE` (R106). -/
def execDec_DE (s : State) : Host.Outcome State Fault Refusal := .next (s.dec16 .de)

/-- `INC HL` (R105). -/
def execInc_HL (s : State) : Host.Outcome State Fault Refusal := .next (s.inc16 .hl)

/-- `ADD HL,HL` (R107). -/
def execAdd_HL_HL (s : State) : Host.Outcome State Fault Refusal := .next (s.addHL .hl)

/-- `DEC HL` (R106). -/
def execDec_HL (s : State) : Host.Outcome State Fault Refusal := .next (s.dec16 .hl)

/-- `INC SP` (R105). -/
def execInc_SP (s : State) : Host.Outcome State Fault Refusal := .next (s.inc16 .sp)

/-- `ADD HL,SP` (R107). -/
def execAdd_HL_SP (s : State) : Host.Outcome State Fault Refusal := .next (s.addHL .sp)

/-- `DEC SP` (R106). -/
def execDec_SP (s : State) : Host.Outcome State Fault Refusal := .next (s.dec16 .sp)

/-- `ADD SP,e8` (R108). -/
def execAdd_SP_e8 (e8 : Byte) (s : State) : Host.Outcome State Fault Refusal := .next (s.addSP e8)

/-- `LD HL,SP+e8` (R109). -/
def execLd_HL_SPe8 (e8 : Byte) (s : State) : Host.Outcome State Fault Refusal := .next (s.ldHLSP e8)

end Sys2Proof.Machine
end

