-- ==== Sys2Proof/Machine/Alu8.lean ====
section
/-! DEFINITION. 8-bit arithmetic and logic of 42_alu8.md (R89 to R104). The operations that the
instructions share come first, then one meaning for each row of the table. -/

namespace Sys2Proof.Machine

/-- An accumulator operation on A and an operand value (R90 to R98). -/
def State.acc (s : State) (op : AluOp) (v : Byte) : State :=
  let r := aluResult op (s.reg .a) v (s.flag .c)
  (if aluWritesA op then s.setReg .a r.1 else s).setReg .f r.2

/-- `op A,r8` (R90). -/
def State.accR8 (s : State) (op : AluOp) (r : R8) : State := (s.noteR8 r).acc op (s.readR8 r)

/-- `op A,n8` (R90). -/
def State.accImm (s : State) (op : AluOp) (n : Byte) : State := s.acc op n

/-- `INC r8` (R99). -/
def State.inc8 (s : State) (r : R8) : State :=
  let o := incResult (s.readR8 r) (s.flag .c)
  ((s.noteR8 r).writeR8 r o.1).setReg .f o.2

/-- `DEC r8` (R100). -/
def State.dec8 (s : State) (r : R8) : State :=
  let o := decResult (s.readR8 r) (s.flag .c)
  ((s.noteR8 r).writeR8 r o.1).setReg .f o.2

/-- `DAA` (R101). -/
def State.daa (s : State) : State :=
  let o := daaResult (s.reg .a) (s.flag .n) (s.flag .h) (s.flag .c)
  (s.setReg .a o.1).setReg .f o.2

/-- `CPL` (R102). -/
def State.cpl (s : State) : State := (s.setReg .a (~~~ s.reg .a)).setFlags (s.flag .z) true true (s.flag .c)

/-- `SCF` (R103). -/
def State.scf (s : State) : State := s.setFlags (s.flag .z) false false true

/-- `CCF` (R104). -/
def State.ccf (s : State) : State := s.setFlags (s.flag .z) false false (!s.flag .c)

/-! ### One meaning for each instruction -/

/-- `INC B` (R99). -/
def execInc_B (s : State) : Host.Outcome State Fault Refusal := .next (s.inc8 .b)

/-- `DEC B` (R100). -/
def execDec_B (s : State) : Host.Outcome State Fault Refusal := .next (s.dec8 .b)

/-- `INC C` (R99). -/
def execInc_C (s : State) : Host.Outcome State Fault Refusal := .next (s.inc8 .c)

/-- `DEC C` (R100). -/
def execDec_C (s : State) : Host.Outcome State Fault Refusal := .next (s.dec8 .c)

/-- `INC D` (R99). -/
def execInc_D (s : State) : Host.Outcome State Fault Refusal := .next (s.inc8 .d)

/-- `DEC D` (R100). -/
def execDec_D (s : State) : Host.Outcome State Fault Refusal := .next (s.dec8 .d)

/-- `INC E` (R99). -/
def execInc_E (s : State) : Host.Outcome State Fault Refusal := .next (s.inc8 .e)

/-- `DEC E` (R100). -/
def execDec_E (s : State) : Host.Outcome State Fault Refusal := .next (s.dec8 .e)

/-- `INC H` (R99). -/
def execInc_H (s : State) : Host.Outcome State Fault Refusal := .next (s.inc8 .h)

/-- `DEC H` (R100). -/
def execDec_H (s : State) : Host.Outcome State Fault Refusal := .next (s.dec8 .h)

/-- `DAA` (R101). -/
def execDaa (s : State) : Host.Outcome State Fault Refusal := .next (s.daa)

/-- `INC L` (R99). -/
def execInc_L (s : State) : Host.Outcome State Fault Refusal := .next (s.inc8 .l)

/-- `DEC L` (R100). -/
def execDec_L (s : State) : Host.Outcome State Fault Refusal := .next (s.dec8 .l)

/-- `CPL` (R102). -/
def execCpl (s : State) : Host.Outcome State Fault Refusal := .next (s.cpl)

/-- `INC [HL]` (R99). -/
def execInc_atHL (s : State) : Host.Outcome State Fault Refusal := .next (s.inc8 .atHL)

/-- `DEC [HL]` (R100). -/
def execDec_atHL (s : State) : Host.Outcome State Fault Refusal := .next (s.dec8 .atHL)

/-- `SCF` (R103). -/
def execScf (s : State) : Host.Outcome State Fault Refusal := .next (s.scf)

/-- `INC A` (R99). -/
def execInc_A (s : State) : Host.Outcome State Fault Refusal := .next (s.inc8 .a)

/-- `DEC A` (R100). -/
def execDec_A (s : State) : Host.Outcome State Fault Refusal := .next (s.dec8 .a)

/-- `CCF` (R104). -/
def execCcf (s : State) : Host.Outcome State Fault Refusal := .next (s.ccf)

/-- `ADD A,B` (R91). -/
def execAdd_A_B (s : State) : Host.Outcome State Fault Refusal := .next (s.accR8 .add .b)

/-- `ADD A,C` (R91). -/
def execAdd_A_C (s : State) : Host.Outcome State Fault Refusal := .next (s.accR8 .add .c)

/-- `ADD A,D` (R91). -/
def execAdd_A_D (s : State) : Host.Outcome State Fault Refusal := .next (s.accR8 .add .d)

/-- `ADD A,E` (R91). -/
def execAdd_A_E (s : State) : Host.Outcome State Fault Refusal := .next (s.accR8 .add .e)

/-- `ADD A,H` (R91). -/
def execAdd_A_H (s : State) : Host.Outcome State Fault Refusal := .next (s.accR8 .add .h)

/-- `ADD A,L` (R91). -/
def execAdd_A_L (s : State) : Host.Outcome State Fault Refusal := .next (s.accR8 .add .l)

/-- `ADD A,[HL]` (R91). -/
def execAdd_A_atHL (s : State) : Host.Outcome State Fault Refusal := .next (s.accR8 .add .atHL)

/-- `ADD A,A` (R91). -/
def execAdd_A_A (s : State) : Host.Outcome State Fault Refusal := .next (s.accR8 .add .a)

/-- `ADC A,B` (R92). -/
def execAdc_A_B (s : State) : Host.Outcome State Fault Refusal := .next (s.accR8 .adc .b)

/-- `ADC A,C` (R92). -/
def execAdc_A_C (s : State) : Host.Outcome State Fault Refusal := .next (s.accR8 .adc .c)

/-- `ADC A,D` (R92). -/
def execAdc_A_D (s : State) : Host.Outcome State Fault Refusal := .next (s.accR8 .adc .d)

/-- `ADC A,E` (R92). -/
def execAdc_A_E (s : State) : Host.Outcome State Fault Refusal := .next (s.accR8 .adc .e)

/-- `ADC A,H` (R92). -/
def execAdc_A_H (s : State) : Host.Outcome State Fault Refusal := .next (s.accR8 .adc .h)

/-- `ADC A,L` (R92). -/
def execAdc_A_L (s : State) : Host.Outcome State Fault Refusal := .next (s.accR8 .adc .l)

/-- `ADC A,[HL]` (R92). -/
def execAdc_A_atHL (s : State) : Host.Outcome State Fault Refusal := .next (s.accR8 .adc .atHL)

/-- `ADC A,A` (R92). -/
def execAdc_A_A (s : State) : Host.Outcome State Fault Refusal := .next (s.accR8 .adc .a)

/-- `SUB A,B` (R93). -/
def execSub_A_B (s : State) : Host.Outcome State Fault Refusal := .next (s.accR8 .sub .b)

/-- `SUB A,C` (R93). -/
def execSub_A_C (s : State) : Host.Outcome State Fault Refusal := .next (s.accR8 .sub .c)

/-- `SUB A,D` (R93). -/
def execSub_A_D (s : State) : Host.Outcome State Fault Refusal := .next (s.accR8 .sub .d)

/-- `SUB A,E` (R93). -/
def execSub_A_E (s : State) : Host.Outcome State Fault Refusal := .next (s.accR8 .sub .e)

/-- `SUB A,H` (R93). -/
def execSub_A_H (s : State) : Host.Outcome State Fault Refusal := .next (s.accR8 .sub .h)

/-- `SUB A,L` (R93). -/
def execSub_A_L (s : State) : Host.Outcome State Fault Refusal := .next (s.accR8 .sub .l)

/-- `SUB A,[HL]` (R93). -/
def execSub_A_atHL (s : State) : Host.Outcome State Fault Refusal := .next (s.accR8 .sub .atHL)

/-- `SUB A,A` (R93). -/
def execSub_A_A (s : State) : Host.Outcome State Fault Refusal := .next (s.accR8 .sub .a)

/-- `SBC A,B` (R94). -/
def execSbc_A_B (s : State) : Host.Outcome State Fault Refusal := .next (s.accR8 .sbc .b)

/-- `SBC A,C` (R94). -/
def execSbc_A_C (s : State) : Host.Outcome State Fault Refusal := .next (s.accR8 .sbc .c)

/-- `SBC A,D` (R94). -/
def execSbc_A_D (s : State) : Host.Outcome State Fault Refusal := .next (s.accR8 .sbc .d)

/-- `SBC A,E` (R94). -/
def execSbc_A_E (s : State) : Host.Outcome State Fault Refusal := .next (s.accR8 .sbc .e)

/-- `SBC A,H` (R94). -/
def execSbc_A_H (s : State) : Host.Outcome State Fault Refusal := .next (s.accR8 .sbc .h)

/-- `SBC A,L` (R94). -/
def execSbc_A_L (s : State) : Host.Outcome State Fault Refusal := .next (s.accR8 .sbc .l)

/-- `SBC A,[HL]` (R94). -/
def execSbc_A_atHL (s : State) : Host.Outcome State Fault Refusal := .next (s.accR8 .sbc .atHL)

/-- `SBC A,A` (R94). -/
def execSbc_A_A (s : State) : Host.Outcome State Fault Refusal := .next (s.accR8 .sbc .a)

/-- `AND A,B` (R95). -/
def execAnd_A_B (s : State) : Host.Outcome State Fault Refusal := .next (s.accR8 .and .b)

/-- `AND A,C` (R95). -/
def execAnd_A_C (s : State) : Host.Outcome State Fault Refusal := .next (s.accR8 .and .c)

/-- `AND A,D` (R95). -/
def execAnd_A_D (s : State) : Host.Outcome State Fault Refusal := .next (s.accR8 .and .d)

/-- `AND A,E` (R95). -/
def execAnd_A_E (s : State) : Host.Outcome State Fault Refusal := .next (s.accR8 .and .e)

/-- `AND A,H` (R95). -/
def execAnd_A_H (s : State) : Host.Outcome State Fault Refusal := .next (s.accR8 .and .h)

/-- `AND A,L` (R95). -/
def execAnd_A_L (s : State) : Host.Outcome State Fault Refusal := .next (s.accR8 .and .l)

/-- `AND A,[HL]` (R95). -/
def execAnd_A_atHL (s : State) : Host.Outcome State Fault Refusal := .next (s.accR8 .and .atHL)

/-- `AND A,A` (R95). -/
def execAnd_A_A (s : State) : Host.Outcome State Fault Refusal := .next (s.accR8 .and .a)

/-- `XOR A,B` (R96). -/
def execXor_A_B (s : State) : Host.Outcome State Fault Refusal := .next (s.accR8 .xor .b)

/-- `XOR A,C` (R96). -/
def execXor_A_C (s : State) : Host.Outcome State Fault Refusal := .next (s.accR8 .xor .c)

/-- `XOR A,D` (R96). -/
def execXor_A_D (s : State) : Host.Outcome State Fault Refusal := .next (s.accR8 .xor .d)

/-- `XOR A,E` (R96). -/
def execXor_A_E (s : State) : Host.Outcome State Fault Refusal := .next (s.accR8 .xor .e)

/-- `XOR A,H` (R96). -/
def execXor_A_H (s : State) : Host.Outcome State Fault Refusal := .next (s.accR8 .xor .h)

/-- `XOR A,L` (R96). -/
def execXor_A_L (s : State) : Host.Outcome State Fault Refusal := .next (s.accR8 .xor .l)

/-- `XOR A,[HL]` (R96). -/
def execXor_A_atHL (s : State) : Host.Outcome State Fault Refusal := .next (s.accR8 .xor .atHL)

/-- `XOR A,A` (R96). -/
def execXor_A_A (s : State) : Host.Outcome State Fault Refusal := .next (s.accR8 .xor .a)

/-- `OR A,B` (R97). -/
def execOr_A_B (s : State) : Host.Outcome State Fault Refusal := .next (s.accR8 .or .b)

/-- `OR A,C` (R97). -/
def execOr_A_C (s : State) : Host.Outcome State Fault Refusal := .next (s.accR8 .or .c)

/-- `OR A,D` (R97). -/
def execOr_A_D (s : State) : Host.Outcome State Fault Refusal := .next (s.accR8 .or .d)

/-- `OR A,E` (R97). -/
def execOr_A_E (s : State) : Host.Outcome State Fault Refusal := .next (s.accR8 .or .e)

/-- `OR A,H` (R97). -/
def execOr_A_H (s : State) : Host.Outcome State Fault Refusal := .next (s.accR8 .or .h)

/-- `OR A,L` (R97). -/
def execOr_A_L (s : State) : Host.Outcome State Fault Refusal := .next (s.accR8 .or .l)

/-- `OR A,[HL]` (R97). -/
def execOr_A_atHL (s : State) : Host.Outcome State Fault Refusal := .next (s.accR8 .or .atHL)

/-- `OR A,A` (R97). -/
def execOr_A_A (s : State) : Host.Outcome State Fault Refusal := .next (s.accR8 .or .a)

/-- `CP A,B` (R98). -/
def execCp_A_B (s : State) : Host.Outcome State Fault Refusal := .next (s.accR8 .cp .b)

/-- `CP A,C` (R98). -/
def execCp_A_C (s : State) : Host.Outcome State Fault Refusal := .next (s.accR8 .cp .c)

/-- `CP A,D` (R98). -/
def execCp_A_D (s : State) : Host.Outcome State Fault Refusal := .next (s.accR8 .cp .d)

/-- `CP A,E` (R98). -/
def execCp_A_E (s : State) : Host.Outcome State Fault Refusal := .next (s.accR8 .cp .e)

/-- `CP A,H` (R98). -/
def execCp_A_H (s : State) : Host.Outcome State Fault Refusal := .next (s.accR8 .cp .h)

/-- `CP A,L` (R98). -/
def execCp_A_L (s : State) : Host.Outcome State Fault Refusal := .next (s.accR8 .cp .l)

/-- `CP A,[HL]` (R98). -/
def execCp_A_atHL (s : State) : Host.Outcome State Fault Refusal := .next (s.accR8 .cp .atHL)

/-- `CP A,A` (R98). -/
def execCp_A_A (s : State) : Host.Outcome State Fault Refusal := .next (s.accR8 .cp .a)

/-- `ADD A,n8` (R91). -/
def execAdd_A_n8 (n8 : Byte) (s : State) : Host.Outcome State Fault Refusal := .next (s.accImm .add n8)

/-- `ADC A,n8` (R92). -/
def execAdc_A_n8 (n8 : Byte) (s : State) : Host.Outcome State Fault Refusal := .next (s.accImm .adc n8)

/-- `SUB A,n8` (R93). -/
def execSub_A_n8 (n8 : Byte) (s : State) : Host.Outcome State Fault Refusal := .next (s.accImm .sub n8)

/-- `SBC A,n8` (R94). -/
def execSbc_A_n8 (n8 : Byte) (s : State) : Host.Outcome State Fault Refusal := .next (s.accImm .sbc n8)

/-- `AND A,n8` (R95). -/
def execAnd_A_n8 (n8 : Byte) (s : State) : Host.Outcome State Fault Refusal := .next (s.accImm .and n8)

/-- `XOR A,n8` (R96). -/
def execXor_A_n8 (n8 : Byte) (s : State) : Host.Outcome State Fault Refusal := .next (s.accImm .xor n8)

/-- `OR A,n8` (R97). -/
def execOr_A_n8 (n8 : Byte) (s : State) : Host.Outcome State Fault Refusal := .next (s.accImm .or n8)

/-- `CP A,n8` (R98). -/
def execCp_A_n8 (n8 : Byte) (s : State) : Host.Outcome State Fault Refusal := .next (s.accImm .cp n8)

end Sys2Proof.Machine
end

