-- ==== Sys2Proof/Machine/Control.lean ====
section
/-! DEFINITION. Control transfer of 45_control.md (R125 to R136). PC is behind the whole instruction when a meaning begins (R12), which
is the base of a relative jump and the address a call pushes. The operations that the
instructions share come first, then one meaning for each row of the table. -/

namespace Sys2Proof.Machine

/-- A taken jump (R125, R127, R128). -/
def State.jumpTo (s : State) (a : Word) : State := s.setPC a

/-- A conditional jump (R126, R129). -/
def State.jumpIf (s : State) (cc : Cond) (a : Word) : State := if s.cond cc then s.jumpTo a else s

/-- A call or restart (R130, R135). -/
def State.callTo (s : State) (a : Word) : State := (s.push16 s.pc).setPC a

/-- A conditional call (R131). -/
def State.callIf (s : State) (cc : Cond) (a : Word) : State := if s.cond cc then s.callTo a else s

/-- `RET` (R132). -/
def State.ret (s : State) : State := s.popped.setPC s.popValue

/-- `RET cc` (R133). -/
def State.retIf (s : State) (cc : Cond) : State := if s.cond cc then s.ret else s

/-! ### One meaning for each instruction -/

/-- `JR e8` (R128). -/
def execJr_e8 (e8 : Byte) (s : State) : Host.Outcome State Fault Refusal := .next (s.jumpTo (s.relative e8))

/-- `JR NZ,e8` (R129). -/
def execJr_NZ_e8 (e8 : Byte) (s : State) : Host.Outcome State Fault Refusal := .next (s.jumpIf .nz (s.relative e8))

/-- `JR Z,e8` (R129). -/
def execJr_Z_e8 (e8 : Byte) (s : State) : Host.Outcome State Fault Refusal := .next (s.jumpIf .z (s.relative e8))

/-- `JR NC,e8` (R129). -/
def execJr_NC_e8 (e8 : Byte) (s : State) : Host.Outcome State Fault Refusal := .next (s.jumpIf .nc (s.relative e8))

/-- `JR C,e8` (R129). -/
def execJr_C_e8 (e8 : Byte) (s : State) : Host.Outcome State Fault Refusal := .next (s.jumpIf .c (s.relative e8))

/-- `RET NZ` (R133). -/
def execRet_NZ (s : State) : Host.Outcome State Fault Refusal := .next (s.retIf .nz)

/-- `JP NZ,n16` (R126). -/
def execJp_NZ_n16 (n16 : Word) (s : State) : Host.Outcome State Fault Refusal := .next (s.jumpIf .nz n16)

/-- `JP n16` (R125). -/
def execJp_n16 (n16 : Word) (s : State) : Host.Outcome State Fault Refusal := .next (s.jumpTo n16)

/-- `CALL NZ,n16` (R131). -/
def execCall_NZ_n16 (n16 : Word) (s : State) : Host.Outcome State Fault Refusal := .next (s.callIf .nz n16)

/-- `RST 0x00` (R135). -/
def execRst_00 (s : State) : Host.Outcome State Fault Refusal := .next (s.callTo (restartAddr 0))

/-- `RET Z` (R133). -/
def execRet_Z (s : State) : Host.Outcome State Fault Refusal := .next (s.retIf .z)

/-- `RET` (R132). -/
def execRet (s : State) : Host.Outcome State Fault Refusal := .next (s.ret)

/-- `JP Z,n16` (R126). -/
def execJp_Z_n16 (n16 : Word) (s : State) : Host.Outcome State Fault Refusal := .next (s.jumpIf .z n16)

/-- `CALL Z,n16` (R131). -/
def execCall_Z_n16 (n16 : Word) (s : State) : Host.Outcome State Fault Refusal := .next (s.callIf .z n16)

/-- `CALL n16` (R130). -/
def execCall_n16 (n16 : Word) (s : State) : Host.Outcome State Fault Refusal := .next (s.callTo n16)

/-- `RST 0x08` (R135). -/
def execRst_08 (s : State) : Host.Outcome State Fault Refusal := .next (s.callTo (restartAddr 1))

/-- `RET NC` (R133). -/
def execRet_NC (s : State) : Host.Outcome State Fault Refusal := .next (s.retIf .nc)

/-- `JP NC,n16` (R126). -/
def execJp_NC_n16 (n16 : Word) (s : State) : Host.Outcome State Fault Refusal := .next (s.jumpIf .nc n16)

/-- `CALL NC,n16` (R131). -/
def execCall_NC_n16 (n16 : Word) (s : State) : Host.Outcome State Fault Refusal := .next (s.callIf .nc n16)

/-- `RST 0x10` (R135). -/
def execRst_10 (s : State) : Host.Outcome State Fault Refusal := .next (s.callTo (restartAddr 2))

/-- `RET C` (R133). -/
def execRet_C (s : State) : Host.Outcome State Fault Refusal := .next (s.retIf .c)

/-- `RETI` (R134). -/
def execReti (s : State) : Host.Outcome State Fault Refusal := .next (s.returnFromInterrupt)

/-- `JP C,n16` (R126). -/
def execJp_C_n16 (n16 : Word) (s : State) : Host.Outcome State Fault Refusal := .next (s.jumpIf .c n16)

/-- `CALL C,n16` (R131). -/
def execCall_C_n16 (n16 : Word) (s : State) : Host.Outcome State Fault Refusal := .next (s.callIf .c n16)

/-- `RST 0x18` (R135). -/
def execRst_18 (s : State) : Host.Outcome State Fault Refusal := .next (s.callTo (restartAddr 3))

/-- `RST 0x20` (R135). -/
def execRst_20 (s : State) : Host.Outcome State Fault Refusal := .next (s.callTo (restartAddr 4))

/-- `JP HL` (R127). -/
def execJp_HL (s : State) : Host.Outcome State Fault Refusal := .next (s.jumpTo s.hl)

/-- `RST 0x28` (R135). -/
def execRst_28 (s : State) : Host.Outcome State Fault Refusal := .next (s.callTo (restartAddr 5))

/-- `RST 0x30` (R135). -/
def execRst_30 (s : State) : Host.Outcome State Fault Refusal := .next (s.callTo (restartAddr 6))

/-- `RST 0x38` (R135). -/
def execRst_38 (s : State) : Host.Outcome State Fault Refusal := .next (s.callTo (restartAddr 7))

end Sys2Proof.Machine
end

