-- ==== Sys2Proof/Machine/Loads.lean ====
section
/-! DEFINITION. Loads, stores and the stack instructions of 41_loads.md (R72 to R88). The operations that the
instructions share come first, then one meaning for each row of the table. -/

namespace Sys2Proof.Machine

/-- `LD r8,r8'` (R72): the source is read, then the destination written. -/
def State.ld8 (s : State) (dst src : R8) : State := (s.noteR8 src).writeR8 dst (s.readR8 src)

/-- `LD r8,n8` (R73). -/
def State.ld8Imm (s : State) (dst : R8) (n : Byte) : State := s.writeR8 dst n

/-- `LD r16,n16` (R74). -/
def State.ld16Imm (s : State) (p : R16) (v : Word) : State := s.writeR16 p v

/-- `LD r16mem,A` (R75, R76): the store, then the adjustment of HL. -/
def State.storeA (s : State) (p : R16mem) : State := (s.memWrite (s.memAddr p) (s.reg .a)).postAdjust p

/-- `LD A,r16mem` (R77, R78): the load, then the adjustment of HL. -/
def State.loadA (s : State) (p : R16mem) : State :=
  ((s.noteRead (s.memAddr p)).setReg .a (s.memRead (s.memAddr p))).postAdjust p

/-- A store of A at an address: `LD [n16],A` (R79) and the high-page stores (R81, R83). -/
def State.storeAAt (s : State) (a : Word) : State := s.memWrite a (s.reg .a)

/-- A load of A from an address: `LD A,[n16]` (R80) and the high-page loads (R82, R84). -/
def State.loadAAt (s : State) (a : Word) : State := (s.noteRead a).setReg .a (s.memRead a)

/-- `LD [n16],SP` (R85): the low byte first. -/
def State.storeSP (s : State) (a : Word) : State := (s.memWrite a s.sp.loByte).memWrite (a + 1) s.sp.hiByte

/-- `LD SP,HL` (R86). -/
def State.ldSPHL (s : State) : State := s.setSP s.hl

/-- `PUSH r16stk` (R87). -/
def State.pushPair (s : State) (p : R16stk) : State := s.push16 (s.readR16stk p)

/-- `POP r16stk` (R88). -/
def State.popPair (s : State) (p : R16stk) : State := s.popped.writeR16stk p s.popValue

/-! ### One meaning for each instruction -/

/-- `LD BC,n16` (R74). -/
def execLd_BC_n16 (n16 : Word) (s : State) : Host.Outcome State Fault Refusal := .next (s.ld16Imm .bc n16)

/-- `LD [BC],A` (R75). -/
def execLd_atBC_A (s : State) : Host.Outcome State Fault Refusal := .next (s.storeA .atBC)

/-- `LD B,n8` (R73). -/
def execLd_B_n8 (n8 : Byte) (s : State) : Host.Outcome State Fault Refusal := .next (s.ld8Imm .b n8)

/-- `LD [n16],SP` (R85). -/
def execLd_atN16_SP (n16 : Word) (s : State) : Host.Outcome State Fault Refusal := .next (s.storeSP n16)

/-- `LD A,[BC]` (R77). -/
def execLd_A_atBC (s : State) : Host.Outcome State Fault Refusal := .next (s.loadA .atBC)

/-- `LD C,n8` (R73). -/
def execLd_C_n8 (n8 : Byte) (s : State) : Host.Outcome State Fault Refusal := .next (s.ld8Imm .c n8)

/-- `LD DE,n16` (R74). -/
def execLd_DE_n16 (n16 : Word) (s : State) : Host.Outcome State Fault Refusal := .next (s.ld16Imm .de n16)

/-- `LD [DE],A` (R75). -/
def execLd_atDE_A (s : State) : Host.Outcome State Fault Refusal := .next (s.storeA .atDE)

/-- `LD D,n8` (R73). -/
def execLd_D_n8 (n8 : Byte) (s : State) : Host.Outcome State Fault Refusal := .next (s.ld8Imm .d n8)

/-- `LD A,[DE]` (R77). -/
def execLd_A_atDE (s : State) : Host.Outcome State Fault Refusal := .next (s.loadA .atDE)

/-- `LD E,n8` (R73). -/
def execLd_E_n8 (n8 : Byte) (s : State) : Host.Outcome State Fault Refusal := .next (s.ld8Imm .e n8)

/-- `LD HL,n16` (R74). -/
def execLd_HL_n16 (n16 : Word) (s : State) : Host.Outcome State Fault Refusal := .next (s.ld16Imm .hl n16)

/-- `LD [HL+],A` (R76). -/
def execLd_atHLi_A (s : State) : Host.Outcome State Fault Refusal := .next (s.storeA .atHLi)

/-- `LD H,n8` (R73). -/
def execLd_H_n8 (n8 : Byte) (s : State) : Host.Outcome State Fault Refusal := .next (s.ld8Imm .h n8)

/-- `LD A,[HL+]` (R78). -/
def execLd_A_atHLi (s : State) : Host.Outcome State Fault Refusal := .next (s.loadA .atHLi)

/-- `LD L,n8` (R73). -/
def execLd_L_n8 (n8 : Byte) (s : State) : Host.Outcome State Fault Refusal := .next (s.ld8Imm .l n8)

/-- `LD SP,n16` (R74). -/
def execLd_SP_n16 (n16 : Word) (s : State) : Host.Outcome State Fault Refusal := .next (s.ld16Imm .sp n16)

/-- `LD [HL-],A` (R76). -/
def execLd_atHLd_A (s : State) : Host.Outcome State Fault Refusal := .next (s.storeA .atHLd)

/-- `LD [HL],n8` (R73). -/
def execLd_atHL_n8 (n8 : Byte) (s : State) : Host.Outcome State Fault Refusal := .next (s.ld8Imm .atHL n8)

/-- `LD A,[HL-]` (R78). -/
def execLd_A_atHLd (s : State) : Host.Outcome State Fault Refusal := .next (s.loadA .atHLd)

/-- `LD A,n8` (R73). -/
def execLd_A_n8 (n8 : Byte) (s : State) : Host.Outcome State Fault Refusal := .next (s.ld8Imm .a n8)

/-- `LD B,B` (R72). -/
def execLd_B_B (s : State) : Host.Outcome State Fault Refusal := .next (s.ld8 .b .b)

/-- `LD B,C` (R72). -/
def execLd_B_C (s : State) : Host.Outcome State Fault Refusal := .next (s.ld8 .b .c)

/-- `LD B,D` (R72). -/
def execLd_B_D (s : State) : Host.Outcome State Fault Refusal := .next (s.ld8 .b .d)

/-- `LD B,E` (R72). -/
def execLd_B_E (s : State) : Host.Outcome State Fault Refusal := .next (s.ld8 .b .e)

/-- `LD B,H` (R72). -/
def execLd_B_H (s : State) : Host.Outcome State Fault Refusal := .next (s.ld8 .b .h)

/-- `LD B,L` (R72). -/
def execLd_B_L (s : State) : Host.Outcome State Fault Refusal := .next (s.ld8 .b .l)

/-- `LD B,[HL]` (R72). -/
def execLd_B_atHL (s : State) : Host.Outcome State Fault Refusal := .next (s.ld8 .b .atHL)

/-- `LD B,A` (R72). -/
def execLd_B_A (s : State) : Host.Outcome State Fault Refusal := .next (s.ld8 .b .a)

/-- `LD C,B` (R72). -/
def execLd_C_B (s : State) : Host.Outcome State Fault Refusal := .next (s.ld8 .c .b)

/-- `LD C,C` (R72). -/
def execLd_C_C (s : State) : Host.Outcome State Fault Refusal := .next (s.ld8 .c .c)

/-- `LD C,D` (R72). -/
def execLd_C_D (s : State) : Host.Outcome State Fault Refusal := .next (s.ld8 .c .d)

/-- `LD C,E` (R72). -/
def execLd_C_E (s : State) : Host.Outcome State Fault Refusal := .next (s.ld8 .c .e)

/-- `LD C,H` (R72). -/
def execLd_C_H (s : State) : Host.Outcome State Fault Refusal := .next (s.ld8 .c .h)

/-- `LD C,L` (R72). -/
def execLd_C_L (s : State) : Host.Outcome State Fault Refusal := .next (s.ld8 .c .l)

/-- `LD C,[HL]` (R72). -/
def execLd_C_atHL (s : State) : Host.Outcome State Fault Refusal := .next (s.ld8 .c .atHL)

/-- `LD C,A` (R72). -/
def execLd_C_A (s : State) : Host.Outcome State Fault Refusal := .next (s.ld8 .c .a)

/-- `LD D,B` (R72). -/
def execLd_D_B (s : State) : Host.Outcome State Fault Refusal := .next (s.ld8 .d .b)

/-- `LD D,C` (R72). -/
def execLd_D_C (s : State) : Host.Outcome State Fault Refusal := .next (s.ld8 .d .c)

/-- `LD D,D` (R72). -/
def execLd_D_D (s : State) : Host.Outcome State Fault Refusal := .next (s.ld8 .d .d)

/-- `LD D,E` (R72). -/
def execLd_D_E (s : State) : Host.Outcome State Fault Refusal := .next (s.ld8 .d .e)

/-- `LD D,H` (R72). -/
def execLd_D_H (s : State) : Host.Outcome State Fault Refusal := .next (s.ld8 .d .h)

/-- `LD D,L` (R72). -/
def execLd_D_L (s : State) : Host.Outcome State Fault Refusal := .next (s.ld8 .d .l)

/-- `LD D,[HL]` (R72). -/
def execLd_D_atHL (s : State) : Host.Outcome State Fault Refusal := .next (s.ld8 .d .atHL)

/-- `LD D,A` (R72). -/
def execLd_D_A (s : State) : Host.Outcome State Fault Refusal := .next (s.ld8 .d .a)

/-- `LD E,B` (R72). -/
def execLd_E_B (s : State) : Host.Outcome State Fault Refusal := .next (s.ld8 .e .b)

/-- `LD E,C` (R72). -/
def execLd_E_C (s : State) : Host.Outcome State Fault Refusal := .next (s.ld8 .e .c)

/-- `LD E,D` (R72). -/
def execLd_E_D (s : State) : Host.Outcome State Fault Refusal := .next (s.ld8 .e .d)

/-- `LD E,E` (R72). -/
def execLd_E_E (s : State) : Host.Outcome State Fault Refusal := .next (s.ld8 .e .e)

/-- `LD E,H` (R72). -/
def execLd_E_H (s : State) : Host.Outcome State Fault Refusal := .next (s.ld8 .e .h)

/-- `LD E,L` (R72). -/
def execLd_E_L (s : State) : Host.Outcome State Fault Refusal := .next (s.ld8 .e .l)

/-- `LD E,[HL]` (R72). -/
def execLd_E_atHL (s : State) : Host.Outcome State Fault Refusal := .next (s.ld8 .e .atHL)

/-- `LD E,A` (R72). -/
def execLd_E_A (s : State) : Host.Outcome State Fault Refusal := .next (s.ld8 .e .a)

/-- `LD H,B` (R72). -/
def execLd_H_B (s : State) : Host.Outcome State Fault Refusal := .next (s.ld8 .h .b)

/-- `LD H,C` (R72). -/
def execLd_H_C (s : State) : Host.Outcome State Fault Refusal := .next (s.ld8 .h .c)

/-- `LD H,D` (R72). -/
def execLd_H_D (s : State) : Host.Outcome State Fault Refusal := .next (s.ld8 .h .d)

/-- `LD H,E` (R72). -/
def execLd_H_E (s : State) : Host.Outcome State Fault Refusal := .next (s.ld8 .h .e)

/-- `LD H,H` (R72). -/
def execLd_H_H (s : State) : Host.Outcome State Fault Refusal := .next (s.ld8 .h .h)

/-- `LD H,L` (R72). -/
def execLd_H_L (s : State) : Host.Outcome State Fault Refusal := .next (s.ld8 .h .l)

/-- `LD H,[HL]` (R72). -/
def execLd_H_atHL (s : State) : Host.Outcome State Fault Refusal := .next (s.ld8 .h .atHL)

/-- `LD H,A` (R72). -/
def execLd_H_A (s : State) : Host.Outcome State Fault Refusal := .next (s.ld8 .h .a)

/-- `LD L,B` (R72). -/
def execLd_L_B (s : State) : Host.Outcome State Fault Refusal := .next (s.ld8 .l .b)

/-- `LD L,C` (R72). -/
def execLd_L_C (s : State) : Host.Outcome State Fault Refusal := .next (s.ld8 .l .c)

/-- `LD L,D` (R72). -/
def execLd_L_D (s : State) : Host.Outcome State Fault Refusal := .next (s.ld8 .l .d)

/-- `LD L,E` (R72). -/
def execLd_L_E (s : State) : Host.Outcome State Fault Refusal := .next (s.ld8 .l .e)

/-- `LD L,H` (R72). -/
def execLd_L_H (s : State) : Host.Outcome State Fault Refusal := .next (s.ld8 .l .h)

/-- `LD L,L` (R72). -/
def execLd_L_L (s : State) : Host.Outcome State Fault Refusal := .next (s.ld8 .l .l)

/-- `LD L,[HL]` (R72). -/
def execLd_L_atHL (s : State) : Host.Outcome State Fault Refusal := .next (s.ld8 .l .atHL)

/-- `LD L,A` (R72). -/
def execLd_L_A (s : State) : Host.Outcome State Fault Refusal := .next (s.ld8 .l .a)

/-- `LD [HL],B` (R72). -/
def execLd_atHL_B (s : State) : Host.Outcome State Fault Refusal := .next (s.ld8 .atHL .b)

/-- `LD [HL],C` (R72). -/
def execLd_atHL_C (s : State) : Host.Outcome State Fault Refusal := .next (s.ld8 .atHL .c)

/-- `LD [HL],D` (R72). -/
def execLd_atHL_D (s : State) : Host.Outcome State Fault Refusal := .next (s.ld8 .atHL .d)

/-- `LD [HL],E` (R72). -/
def execLd_atHL_E (s : State) : Host.Outcome State Fault Refusal := .next (s.ld8 .atHL .e)

/-- `LD [HL],H` (R72). -/
def execLd_atHL_H (s : State) : Host.Outcome State Fault Refusal := .next (s.ld8 .atHL .h)

/-- `LD [HL],L` (R72). -/
def execLd_atHL_L (s : State) : Host.Outcome State Fault Refusal := .next (s.ld8 .atHL .l)

/-- `LD [HL],A` (R72). -/
def execLd_atHL_A (s : State) : Host.Outcome State Fault Refusal := .next (s.ld8 .atHL .a)

/-- `LD A,B` (R72). -/
def execLd_A_B (s : State) : Host.Outcome State Fault Refusal := .next (s.ld8 .a .b)

/-- `LD A,C` (R72). -/
def execLd_A_C (s : State) : Host.Outcome State Fault Refusal := .next (s.ld8 .a .c)

/-- `LD A,D` (R72). -/
def execLd_A_D (s : State) : Host.Outcome State Fault Refusal := .next (s.ld8 .a .d)

/-- `LD A,E` (R72). -/
def execLd_A_E (s : State) : Host.Outcome State Fault Refusal := .next (s.ld8 .a .e)

/-- `LD A,H` (R72). -/
def execLd_A_H (s : State) : Host.Outcome State Fault Refusal := .next (s.ld8 .a .h)

/-- `LD A,L` (R72). -/
def execLd_A_L (s : State) : Host.Outcome State Fault Refusal := .next (s.ld8 .a .l)

/-- `LD A,[HL]` (R72). -/
def execLd_A_atHL (s : State) : Host.Outcome State Fault Refusal := .next (s.ld8 .a .atHL)

/-- `LD A,A` (R72). -/
def execLd_A_A (s : State) : Host.Outcome State Fault Refusal := .next (s.ld8 .a .a)

/-- `POP BC` (R88). -/
def execPop_BC (s : State) : Host.Outcome State Fault Refusal := .next (s.popPair .bc)

/-- `PUSH BC` (R87). -/
def execPush_BC (s : State) : Host.Outcome State Fault Refusal := .next (s.pushPair .bc)

/-- `POP DE` (R88). -/
def execPop_DE (s : State) : Host.Outcome State Fault Refusal := .next (s.popPair .de)

/-- `PUSH DE` (R87). -/
def execPush_DE (s : State) : Host.Outcome State Fault Refusal := .next (s.pushPair .de)

/-- `LDH [a8],A` (R81). -/
def execLdh_atA8_A (a8 : Byte) (s : State) : Host.Outcome State Fault Refusal := .next (s.storeAAt (highPage a8))

/-- `POP HL` (R88). -/
def execPop_HL (s : State) : Host.Outcome State Fault Refusal := .next (s.popPair .hl)

/-- `LDH [C],A` (R83). -/
def execLdh_atC_A (s : State) : Host.Outcome State Fault Refusal := .next (s.storeAAt (highPage (s.reg .c)))

/-- `PUSH HL` (R87). -/
def execPush_HL (s : State) : Host.Outcome State Fault Refusal := .next (s.pushPair .hl)

/-- `LD [n16],A` (R79). -/
def execLd_atN16_A (n16 : Word) (s : State) : Host.Outcome State Fault Refusal := .next (s.storeAAt n16)

/-- `LDH A,[a8]` (R82). -/
def execLdh_A_atA8 (a8 : Byte) (s : State) : Host.Outcome State Fault Refusal := .next (s.loadAAt (highPage a8))

/-- `POP AF` (R88). -/
def execPop_AF (s : State) : Host.Outcome State Fault Refusal := .next (s.popPair .af)

/-- `LDH A,[C]` (R84). -/
def execLdh_A_atC (s : State) : Host.Outcome State Fault Refusal := .next (s.loadAAt (highPage (s.reg .c)))

/-- `PUSH AF` (R87). -/
def execPush_AF (s : State) : Host.Outcome State Fault Refusal := .next (s.pushPair .af)

/-- `LD SP,HL` (R86). -/
def execLd_SP_HL (s : State) : Host.Outcome State Fault Refusal := .next (s.ldSPHL)

/-- `LD A,[n16]` (R80). -/
def execLd_A_atN16 (n16 : Word) (s : State) : Host.Outcome State Fault Refusal := .next (s.loadAAt n16)

end Sys2Proof.Machine
end

