-- ==== Sys2Proof/Machine/RotateShiftBit.lean ====
section
/-! DEFINITION. Rotates, shifts and bit operations of 44_rotate_shift_bit.md (R110 to R124). The operations that the
instructions share come first, then one meaning for each row of the table. -/

namespace Sys2Proof.Machine

/-- The accumulator rotates RLCA, RRCA, RLA, RRA (R110 to R113): Z is 0 whatever the result. -/
def State.rotA (s : State) (op : RotOp) : State :=
  let o := rotResult op (s.reg .a) (s.flag .c)
  (s.setReg .a o.1).setFlags false false false o.2

/-- A prefixed rotate or shift of an r8 operand (R114 to R121). -/
def State.rot (s : State) (op : RotOp) (r : R8) : State :=
  let o := rotResult op (s.readR8 r) (s.flag .c)
  ((s.noteR8 r).writeR8 r o.1).setFlags (o.1 == 0) false false o.2

/-- `BIT b,r8` (R122): C is kept and nothing is written back. -/
def State.bitTest (s : State) (b : Fin 8) (r : R8) : State :=
  (s.noteR8 r).setFlags (!(s.readR8 r).getLsbD b.val) false true (s.flag .c)

/-- `RES b,r8` (R123). -/
def State.bitReset (s : State) (b : Fin 8) (r : R8) : State :=
  (s.noteR8 r).writeR8 r (s.readR8 r &&& ~~~ bitMask b)

/-- `SET b,r8` (R124). -/
def State.bitSet (s : State) (b : Fin 8) (r : R8) : State := (s.noteR8 r).writeR8 r (s.readR8 r ||| bitMask b)

/-- The prefixed instruction that a second byte selects (R68, R142). -/
def State.prefixed (s : State) (b : Byte) : State :=
  match (opBlock b).toNat with
  | 0 => s.rot (.ofField (opY b)) (.ofField (opZ b))
  | 1 => s.bitTest (opY b).toFin (.ofField (opZ b))
  | 2 => s.bitReset (opY b).toFin (.ofField (opZ b))
  | _ => s.bitSet (opY b).toFin (.ofField (opZ b))

/-! ### One meaning for each instruction -/

/-- `RLCA` (R110). -/
def execRlca (s : State) : Host.Outcome State Fault Refusal := .next (s.rotA .rlc)

/-- `RRCA` (R111). -/
def execRrca (s : State) : Host.Outcome State Fault Refusal := .next (s.rotA .rrc)

/-- `RLA` (R112). -/
def execRla (s : State) : Host.Outcome State Fault Refusal := .next (s.rotA .rl)

/-- `RRA` (R113). -/
def execRra (s : State) : Host.Outcome State Fault Refusal := .next (s.rotA .rr)

/-- `RLC B` (R114). -/
def execRlc_B (s : State) : Host.Outcome State Fault Refusal := .next (s.rot .rlc .b)

/-- `RLC C` (R114). -/
def execRlc_C (s : State) : Host.Outcome State Fault Refusal := .next (s.rot .rlc .c)

/-- `RLC D` (R114). -/
def execRlc_D (s : State) : Host.Outcome State Fault Refusal := .next (s.rot .rlc .d)

/-- `RLC E` (R114). -/
def execRlc_E (s : State) : Host.Outcome State Fault Refusal := .next (s.rot .rlc .e)

/-- `RLC H` (R114). -/
def execRlc_H (s : State) : Host.Outcome State Fault Refusal := .next (s.rot .rlc .h)

/-- `RLC L` (R114). -/
def execRlc_L (s : State) : Host.Outcome State Fault Refusal := .next (s.rot .rlc .l)

/-- `RLC [HL]` (R114). -/
def execRlc_atHL (s : State) : Host.Outcome State Fault Refusal := .next (s.rot .rlc .atHL)

/-- `RLC A` (R114). -/
def execRlc_A (s : State) : Host.Outcome State Fault Refusal := .next (s.rot .rlc .a)

/-- `RRC B` (R115). -/
def execRrc_B (s : State) : Host.Outcome State Fault Refusal := .next (s.rot .rrc .b)

/-- `RRC C` (R115). -/
def execRrc_C (s : State) : Host.Outcome State Fault Refusal := .next (s.rot .rrc .c)

/-- `RRC D` (R115). -/
def execRrc_D (s : State) : Host.Outcome State Fault Refusal := .next (s.rot .rrc .d)

/-- `RRC E` (R115). -/
def execRrc_E (s : State) : Host.Outcome State Fault Refusal := .next (s.rot .rrc .e)

/-- `RRC H` (R115). -/
def execRrc_H (s : State) : Host.Outcome State Fault Refusal := .next (s.rot .rrc .h)

/-- `RRC L` (R115). -/
def execRrc_L (s : State) : Host.Outcome State Fault Refusal := .next (s.rot .rrc .l)

/-- `RRC [HL]` (R115). -/
def execRrc_atHL (s : State) : Host.Outcome State Fault Refusal := .next (s.rot .rrc .atHL)

/-- `RRC A` (R115). -/
def execRrc_A (s : State) : Host.Outcome State Fault Refusal := .next (s.rot .rrc .a)

/-- `RL B` (R116). -/
def execRl_B (s : State) : Host.Outcome State Fault Refusal := .next (s.rot .rl .b)

/-- `RL C` (R116). -/
def execRl_C (s : State) : Host.Outcome State Fault Refusal := .next (s.rot .rl .c)

/-- `RL D` (R116). -/
def execRl_D (s : State) : Host.Outcome State Fault Refusal := .next (s.rot .rl .d)

/-- `RL E` (R116). -/
def execRl_E (s : State) : Host.Outcome State Fault Refusal := .next (s.rot .rl .e)

/-- `RL H` (R116). -/
def execRl_H (s : State) : Host.Outcome State Fault Refusal := .next (s.rot .rl .h)

/-- `RL L` (R116). -/
def execRl_L (s : State) : Host.Outcome State Fault Refusal := .next (s.rot .rl .l)

/-- `RL [HL]` (R116). -/
def execRl_atHL (s : State) : Host.Outcome State Fault Refusal := .next (s.rot .rl .atHL)

/-- `RL A` (R116). -/
def execRl_A (s : State) : Host.Outcome State Fault Refusal := .next (s.rot .rl .a)

/-- `RR B` (R117). -/
def execRr_B (s : State) : Host.Outcome State Fault Refusal := .next (s.rot .rr .b)

/-- `RR C` (R117). -/
def execRr_C (s : State) : Host.Outcome State Fault Refusal := .next (s.rot .rr .c)

/-- `RR D` (R117). -/
def execRr_D (s : State) : Host.Outcome State Fault Refusal := .next (s.rot .rr .d)

/-- `RR E` (R117). -/
def execRr_E (s : State) : Host.Outcome State Fault Refusal := .next (s.rot .rr .e)

/-- `RR H` (R117). -/
def execRr_H (s : State) : Host.Outcome State Fault Refusal := .next (s.rot .rr .h)

/-- `RR L` (R117). -/
def execRr_L (s : State) : Host.Outcome State Fault Refusal := .next (s.rot .rr .l)

/-- `RR [HL]` (R117). -/
def execRr_atHL (s : State) : Host.Outcome State Fault Refusal := .next (s.rot .rr .atHL)

/-- `RR A` (R117). -/
def execRr_A (s : State) : Host.Outcome State Fault Refusal := .next (s.rot .rr .a)

/-- `SLA B` (R118). -/
def execSla_B (s : State) : Host.Outcome State Fault Refusal := .next (s.rot .sla .b)

/-- `SLA C` (R118). -/
def execSla_C (s : State) : Host.Outcome State Fault Refusal := .next (s.rot .sla .c)

/-- `SLA D` (R118). -/
def execSla_D (s : State) : Host.Outcome State Fault Refusal := .next (s.rot .sla .d)

/-- `SLA E` (R118). -/
def execSla_E (s : State) : Host.Outcome State Fault Refusal := .next (s.rot .sla .e)

/-- `SLA H` (R118). -/
def execSla_H (s : State) : Host.Outcome State Fault Refusal := .next (s.rot .sla .h)

/-- `SLA L` (R118). -/
def execSla_L (s : State) : Host.Outcome State Fault Refusal := .next (s.rot .sla .l)

/-- `SLA [HL]` (R118). -/
def execSla_atHL (s : State) : Host.Outcome State Fault Refusal := .next (s.rot .sla .atHL)

/-- `SLA A` (R118). -/
def execSla_A (s : State) : Host.Outcome State Fault Refusal := .next (s.rot .sla .a)

/-- `SRA B` (R119). -/
def execSra_B (s : State) : Host.Outcome State Fault Refusal := .next (s.rot .sra .b)

/-- `SRA C` (R119). -/
def execSra_C (s : State) : Host.Outcome State Fault Refusal := .next (s.rot .sra .c)

/-- `SRA D` (R119). -/
def execSra_D (s : State) : Host.Outcome State Fault Refusal := .next (s.rot .sra .d)

/-- `SRA E` (R119). -/
def execSra_E (s : State) : Host.Outcome State Fault Refusal := .next (s.rot .sra .e)

/-- `SRA H` (R119). -/
def execSra_H (s : State) : Host.Outcome State Fault Refusal := .next (s.rot .sra .h)

/-- `SRA L` (R119). -/
def execSra_L (s : State) : Host.Outcome State Fault Refusal := .next (s.rot .sra .l)

/-- `SRA [HL]` (R119). -/
def execSra_atHL (s : State) : Host.Outcome State Fault Refusal := .next (s.rot .sra .atHL)

/-- `SRA A` (R119). -/
def execSra_A (s : State) : Host.Outcome State Fault Refusal := .next (s.rot .sra .a)

/-- `SWAP B` (R120). -/
def execSwap_B (s : State) : Host.Outcome State Fault Refusal := .next (s.rot .swap .b)

/-- `SWAP C` (R120). -/
def execSwap_C (s : State) : Host.Outcome State Fault Refusal := .next (s.rot .swap .c)

/-- `SWAP D` (R120). -/
def execSwap_D (s : State) : Host.Outcome State Fault Refusal := .next (s.rot .swap .d)

/-- `SWAP E` (R120). -/
def execSwap_E (s : State) : Host.Outcome State Fault Refusal := .next (s.rot .swap .e)

/-- `SWAP H` (R120). -/
def execSwap_H (s : State) : Host.Outcome State Fault Refusal := .next (s.rot .swap .h)

/-- `SWAP L` (R120). -/
def execSwap_L (s : State) : Host.Outcome State Fault Refusal := .next (s.rot .swap .l)

/-- `SWAP [HL]` (R120). -/
def execSwap_atHL (s : State) : Host.Outcome State Fault Refusal := .next (s.rot .swap .atHL)

/-- `SWAP A` (R120). -/
def execSwap_A (s : State) : Host.Outcome State Fault Refusal := .next (s.rot .swap .a)

/-- `SRL B` (R121). -/
def execSrl_B (s : State) : Host.Outcome State Fault Refusal := .next (s.rot .srl .b)

/-- `SRL C` (R121). -/
def execSrl_C (s : State) : Host.Outcome State Fault Refusal := .next (s.rot .srl .c)

/-- `SRL D` (R121). -/
def execSrl_D (s : State) : Host.Outcome State Fault Refusal := .next (s.rot .srl .d)

/-- `SRL E` (R121). -/
def execSrl_E (s : State) : Host.Outcome State Fault Refusal := .next (s.rot .srl .e)

/-- `SRL H` (R121). -/
def execSrl_H (s : State) : Host.Outcome State Fault Refusal := .next (s.rot .srl .h)

/-- `SRL L` (R121). -/
def execSrl_L (s : State) : Host.Outcome State Fault Refusal := .next (s.rot .srl .l)

/-- `SRL [HL]` (R121). -/
def execSrl_atHL (s : State) : Host.Outcome State Fault Refusal := .next (s.rot .srl .atHL)

/-- `SRL A` (R121). -/
def execSrl_A (s : State) : Host.Outcome State Fault Refusal := .next (s.rot .srl .a)

/-- `BIT 0,B` (R122). -/
def execBit_0_B (s : State) : Host.Outcome State Fault Refusal := .next (s.bitTest 0 .b)

/-- `BIT 0,C` (R122). -/
def execBit_0_C (s : State) : Host.Outcome State Fault Refusal := .next (s.bitTest 0 .c)

/-- `BIT 0,D` (R122). -/
def execBit_0_D (s : State) : Host.Outcome State Fault Refusal := .next (s.bitTest 0 .d)

/-- `BIT 0,E` (R122). -/
def execBit_0_E (s : State) : Host.Outcome State Fault Refusal := .next (s.bitTest 0 .e)

/-- `BIT 0,H` (R122). -/
def execBit_0_H (s : State) : Host.Outcome State Fault Refusal := .next (s.bitTest 0 .h)

/-- `BIT 0,L` (R122). -/
def execBit_0_L (s : State) : Host.Outcome State Fault Refusal := .next (s.bitTest 0 .l)

/-- `BIT 0,[HL]` (R122). -/
def execBit_0_atHL (s : State) : Host.Outcome State Fault Refusal := .next (s.bitTest 0 .atHL)

/-- `BIT 0,A` (R122). -/
def execBit_0_A (s : State) : Host.Outcome State Fault Refusal := .next (s.bitTest 0 .a)

/-- `BIT 1,B` (R122). -/
def execBit_1_B (s : State) : Host.Outcome State Fault Refusal := .next (s.bitTest 1 .b)

/-- `BIT 1,C` (R122). -/
def execBit_1_C (s : State) : Host.Outcome State Fault Refusal := .next (s.bitTest 1 .c)

/-- `BIT 1,D` (R122). -/
def execBit_1_D (s : State) : Host.Outcome State Fault Refusal := .next (s.bitTest 1 .d)

/-- `BIT 1,E` (R122). -/
def execBit_1_E (s : State) : Host.Outcome State Fault Refusal := .next (s.bitTest 1 .e)

/-- `BIT 1,H` (R122). -/
def execBit_1_H (s : State) : Host.Outcome State Fault Refusal := .next (s.bitTest 1 .h)

/-- `BIT 1,L` (R122). -/
def execBit_1_L (s : State) : Host.Outcome State Fault Refusal := .next (s.bitTest 1 .l)

/-- `BIT 1,[HL]` (R122). -/
def execBit_1_atHL (s : State) : Host.Outcome State Fault Refusal := .next (s.bitTest 1 .atHL)

/-- `BIT 1,A` (R122). -/
def execBit_1_A (s : State) : Host.Outcome State Fault Refusal := .next (s.bitTest 1 .a)

/-- `BIT 2,B` (R122). -/
def execBit_2_B (s : State) : Host.Outcome State Fault Refusal := .next (s.bitTest 2 .b)

/-- `BIT 2,C` (R122). -/
def execBit_2_C (s : State) : Host.Outcome State Fault Refusal := .next (s.bitTest 2 .c)

/-- `BIT 2,D` (R122). -/
def execBit_2_D (s : State) : Host.Outcome State Fault Refusal := .next (s.bitTest 2 .d)

/-- `BIT 2,E` (R122). -/
def execBit_2_E (s : State) : Host.Outcome State Fault Refusal := .next (s.bitTest 2 .e)

/-- `BIT 2,H` (R122). -/
def execBit_2_H (s : State) : Host.Outcome State Fault Refusal := .next (s.bitTest 2 .h)

/-- `BIT 2,L` (R122). -/
def execBit_2_L (s : State) : Host.Outcome State Fault Refusal := .next (s.bitTest 2 .l)

/-- `BIT 2,[HL]` (R122). -/
def execBit_2_atHL (s : State) : Host.Outcome State Fault Refusal := .next (s.bitTest 2 .atHL)

/-- `BIT 2,A` (R122). -/
def execBit_2_A (s : State) : Host.Outcome State Fault Refusal := .next (s.bitTest 2 .a)

/-- `BIT 3,B` (R122). -/
def execBit_3_B (s : State) : Host.Outcome State Fault Refusal := .next (s.bitTest 3 .b)

/-- `BIT 3,C` (R122). -/
def execBit_3_C (s : State) : Host.Outcome State Fault Refusal := .next (s.bitTest 3 .c)

/-- `BIT 3,D` (R122). -/
def execBit_3_D (s : State) : Host.Outcome State Fault Refusal := .next (s.bitTest 3 .d)

/-- `BIT 3,E` (R122). -/
def execBit_3_E (s : State) : Host.Outcome State Fault Refusal := .next (s.bitTest 3 .e)

/-- `BIT 3,H` (R122). -/
def execBit_3_H (s : State) : Host.Outcome State Fault Refusal := .next (s.bitTest 3 .h)

/-- `BIT 3,L` (R122). -/
def execBit_3_L (s : State) : Host.Outcome State Fault Refusal := .next (s.bitTest 3 .l)

/-- `BIT 3,[HL]` (R122). -/
def execBit_3_atHL (s : State) : Host.Outcome State Fault Refusal := .next (s.bitTest 3 .atHL)

/-- `BIT 3,A` (R122). -/
def execBit_3_A (s : State) : Host.Outcome State Fault Refusal := .next (s.bitTest 3 .a)

/-- `BIT 4,B` (R122). -/
def execBit_4_B (s : State) : Host.Outcome State Fault Refusal := .next (s.bitTest 4 .b)

/-- `BIT 4,C` (R122). -/
def execBit_4_C (s : State) : Host.Outcome State Fault Refusal := .next (s.bitTest 4 .c)

/-- `BIT 4,D` (R122). -/
def execBit_4_D (s : State) : Host.Outcome State Fault Refusal := .next (s.bitTest 4 .d)

/-- `BIT 4,E` (R122). -/
def execBit_4_E (s : State) : Host.Outcome State Fault Refusal := .next (s.bitTest 4 .e)

/-- `BIT 4,H` (R122). -/
def execBit_4_H (s : State) : Host.Outcome State Fault Refusal := .next (s.bitTest 4 .h)

/-- `BIT 4,L` (R122). -/
def execBit_4_L (s : State) : Host.Outcome State Fault Refusal := .next (s.bitTest 4 .l)

/-- `BIT 4,[HL]` (R122). -/
def execBit_4_atHL (s : State) : Host.Outcome State Fault Refusal := .next (s.bitTest 4 .atHL)

/-- `BIT 4,A` (R122). -/
def execBit_4_A (s : State) : Host.Outcome State Fault Refusal := .next (s.bitTest 4 .a)

/-- `BIT 5,B` (R122). -/
def execBit_5_B (s : State) : Host.Outcome State Fault Refusal := .next (s.bitTest 5 .b)

/-- `BIT 5,C` (R122). -/
def execBit_5_C (s : State) : Host.Outcome State Fault Refusal := .next (s.bitTest 5 .c)

/-- `BIT 5,D` (R122). -/
def execBit_5_D (s : State) : Host.Outcome State Fault Refusal := .next (s.bitTest 5 .d)

/-- `BIT 5,E` (R122). -/
def execBit_5_E (s : State) : Host.Outcome State Fault Refusal := .next (s.bitTest 5 .e)

/-- `BIT 5,H` (R122). -/
def execBit_5_H (s : State) : Host.Outcome State Fault Refusal := .next (s.bitTest 5 .h)

/-- `BIT 5,L` (R122). -/
def execBit_5_L (s : State) : Host.Outcome State Fault Refusal := .next (s.bitTest 5 .l)

/-- `BIT 5,[HL]` (R122). -/
def execBit_5_atHL (s : State) : Host.Outcome State Fault Refusal := .next (s.bitTest 5 .atHL)

/-- `BIT 5,A` (R122). -/
def execBit_5_A (s : State) : Host.Outcome State Fault Refusal := .next (s.bitTest 5 .a)

/-- `BIT 6,B` (R122). -/
def execBit_6_B (s : State) : Host.Outcome State Fault Refusal := .next (s.bitTest 6 .b)

/-- `BIT 6,C` (R122). -/
def execBit_6_C (s : State) : Host.Outcome State Fault Refusal := .next (s.bitTest 6 .c)

/-- `BIT 6,D` (R122). -/
def execBit_6_D (s : State) : Host.Outcome State Fault Refusal := .next (s.bitTest 6 .d)

/-- `BIT 6,E` (R122). -/
def execBit_6_E (s : State) : Host.Outcome State Fault Refusal := .next (s.bitTest 6 .e)

/-- `BIT 6,H` (R122). -/
def execBit_6_H (s : State) : Host.Outcome State Fault Refusal := .next (s.bitTest 6 .h)

/-- `BIT 6,L` (R122). -/
def execBit_6_L (s : State) : Host.Outcome State Fault Refusal := .next (s.bitTest 6 .l)

/-- `BIT 6,[HL]` (R122). -/
def execBit_6_atHL (s : State) : Host.Outcome State Fault Refusal := .next (s.bitTest 6 .atHL)

/-- `BIT 6,A` (R122). -/
def execBit_6_A (s : State) : Host.Outcome State Fault Refusal := .next (s.bitTest 6 .a)

/-- `BIT 7,B` (R122). -/
def execBit_7_B (s : State) : Host.Outcome State Fault Refusal := .next (s.bitTest 7 .b)

/-- `BIT 7,C` (R122). -/
def execBit_7_C (s : State) : Host.Outcome State Fault Refusal := .next (s.bitTest 7 .c)

/-- `BIT 7,D` (R122). -/
def execBit_7_D (s : State) : Host.Outcome State Fault Refusal := .next (s.bitTest 7 .d)

/-- `BIT 7,E` (R122). -/
def execBit_7_E (s : State) : Host.Outcome State Fault Refusal := .next (s.bitTest 7 .e)

/-- `BIT 7,H` (R122). -/
def execBit_7_H (s : State) : Host.Outcome State Fault Refusal := .next (s.bitTest 7 .h)

/-- `BIT 7,L` (R122). -/
def execBit_7_L (s : State) : Host.Outcome State Fault Refusal := .next (s.bitTest 7 .l)

/-- `BIT 7,[HL]` (R122). -/
def execBit_7_atHL (s : State) : Host.Outcome State Fault Refusal := .next (s.bitTest 7 .atHL)

/-- `BIT 7,A` (R122). -/
def execBit_7_A (s : State) : Host.Outcome State Fault Refusal := .next (s.bitTest 7 .a)

/-- `RES 0,B` (R123). -/
def execRes_0_B (s : State) : Host.Outcome State Fault Refusal := .next (s.bitReset 0 .b)

/-- `RES 0,C` (R123). -/
def execRes_0_C (s : State) : Host.Outcome State Fault Refusal := .next (s.bitReset 0 .c)

/-- `RES 0,D` (R123). -/
def execRes_0_D (s : State) : Host.Outcome State Fault Refusal := .next (s.bitReset 0 .d)

/-- `RES 0,E` (R123). -/
def execRes_0_E (s : State) : Host.Outcome State Fault Refusal := .next (s.bitReset 0 .e)

/-- `RES 0,H` (R123). -/
def execRes_0_H (s : State) : Host.Outcome State Fault Refusal := .next (s.bitReset 0 .h)

/-- `RES 0,L` (R123). -/
def execRes_0_L (s : State) : Host.Outcome State Fault Refusal := .next (s.bitReset 0 .l)

/-- `RES 0,[HL]` (R123). -/
def execRes_0_atHL (s : State) : Host.Outcome State Fault Refusal := .next (s.bitReset 0 .atHL)

/-- `RES 0,A` (R123). -/
def execRes_0_A (s : State) : Host.Outcome State Fault Refusal := .next (s.bitReset 0 .a)

/-- `RES 1,B` (R123). -/
def execRes_1_B (s : State) : Host.Outcome State Fault Refusal := .next (s.bitReset 1 .b)

/-- `RES 1,C` (R123). -/
def execRes_1_C (s : State) : Host.Outcome State Fault Refusal := .next (s.bitReset 1 .c)

/-- `RES 1,D` (R123). -/
def execRes_1_D (s : State) : Host.Outcome State Fault Refusal := .next (s.bitReset 1 .d)

/-- `RES 1,E` (R123). -/
def execRes_1_E (s : State) : Host.Outcome State Fault Refusal := .next (s.bitReset 1 .e)

/-- `RES 1,H` (R123). -/
def execRes_1_H (s : State) : Host.Outcome State Fault Refusal := .next (s.bitReset 1 .h)

/-- `RES 1,L` (R123). -/
def execRes_1_L (s : State) : Host.Outcome State Fault Refusal := .next (s.bitReset 1 .l)

/-- `RES 1,[HL]` (R123). -/
def execRes_1_atHL (s : State) : Host.Outcome State Fault Refusal := .next (s.bitReset 1 .atHL)

/-- `RES 1,A` (R123). -/
def execRes_1_A (s : State) : Host.Outcome State Fault Refusal := .next (s.bitReset 1 .a)

/-- `RES 2,B` (R123). -/
def execRes_2_B (s : State) : Host.Outcome State Fault Refusal := .next (s.bitReset 2 .b)

/-- `RES 2,C` (R123). -/
def execRes_2_C (s : State) : Host.Outcome State Fault Refusal := .next (s.bitReset 2 .c)

/-- `RES 2,D` (R123). -/
def execRes_2_D (s : State) : Host.Outcome State Fault Refusal := .next (s.bitReset 2 .d)

/-- `RES 2,E` (R123). -/
def execRes_2_E (s : State) : Host.Outcome State Fault Refusal := .next (s.bitReset 2 .e)

/-- `RES 2,H` (R123). -/
def execRes_2_H (s : State) : Host.Outcome State Fault Refusal := .next (s.bitReset 2 .h)

/-- `RES 2,L` (R123). -/
def execRes_2_L (s : State) : Host.Outcome State Fault Refusal := .next (s.bitReset 2 .l)

/-- `RES 2,[HL]` (R123). -/
def execRes_2_atHL (s : State) : Host.Outcome State Fault Refusal := .next (s.bitReset 2 .atHL)

/-- `RES 2,A` (R123). -/
def execRes_2_A (s : State) : Host.Outcome State Fault Refusal := .next (s.bitReset 2 .a)

/-- `RES 3,B` (R123). -/
def execRes_3_B (s : State) : Host.Outcome State Fault Refusal := .next (s.bitReset 3 .b)

/-- `RES 3,C` (R123). -/
def execRes_3_C (s : State) : Host.Outcome State Fault Refusal := .next (s.bitReset 3 .c)

/-- `RES 3,D` (R123). -/
def execRes_3_D (s : State) : Host.Outcome State Fault Refusal := .next (s.bitReset 3 .d)

/-- `RES 3,E` (R123). -/
def execRes_3_E (s : State) : Host.Outcome State Fault Refusal := .next (s.bitReset 3 .e)

/-- `RES 3,H` (R123). -/
def execRes_3_H (s : State) : Host.Outcome State Fault Refusal := .next (s.bitReset 3 .h)

/-- `RES 3,L` (R123). -/
def execRes_3_L (s : State) : Host.Outcome State Fault Refusal := .next (s.bitReset 3 .l)

/-- `RES 3,[HL]` (R123). -/
def execRes_3_atHL (s : State) : Host.Outcome State Fault Refusal := .next (s.bitReset 3 .atHL)

/-- `RES 3,A` (R123). -/
def execRes_3_A (s : State) : Host.Outcome State Fault Refusal := .next (s.bitReset 3 .a)

/-- `RES 4,B` (R123). -/
def execRes_4_B (s : State) : Host.Outcome State Fault Refusal := .next (s.bitReset 4 .b)

/-- `RES 4,C` (R123). -/
def execRes_4_C (s : State) : Host.Outcome State Fault Refusal := .next (s.bitReset 4 .c)

/-- `RES 4,D` (R123). -/
def execRes_4_D (s : State) : Host.Outcome State Fault Refusal := .next (s.bitReset 4 .d)

/-- `RES 4,E` (R123). -/
def execRes_4_E (s : State) : Host.Outcome State Fault Refusal := .next (s.bitReset 4 .e)

/-- `RES 4,H` (R123). -/
def execRes_4_H (s : State) : Host.Outcome State Fault Refusal := .next (s.bitReset 4 .h)

/-- `RES 4,L` (R123). -/
def execRes_4_L (s : State) : Host.Outcome State Fault Refusal := .next (s.bitReset 4 .l)

/-- `RES 4,[HL]` (R123). -/
def execRes_4_atHL (s : State) : Host.Outcome State Fault Refusal := .next (s.bitReset 4 .atHL)

/-- `RES 4,A` (R123). -/
def execRes_4_A (s : State) : Host.Outcome State Fault Refusal := .next (s.bitReset 4 .a)

/-- `RES 5,B` (R123). -/
def execRes_5_B (s : State) : Host.Outcome State Fault Refusal := .next (s.bitReset 5 .b)

/-- `RES 5,C` (R123). -/
def execRes_5_C (s : State) : Host.Outcome State Fault Refusal := .next (s.bitReset 5 .c)

/-- `RES 5,D` (R123). -/
def execRes_5_D (s : State) : Host.Outcome State Fault Refusal := .next (s.bitReset 5 .d)

/-- `RES 5,E` (R123). -/
def execRes_5_E (s : State) : Host.Outcome State Fault Refusal := .next (s.bitReset 5 .e)

/-- `RES 5,H` (R123). -/
def execRes_5_H (s : State) : Host.Outcome State Fault Refusal := .next (s.bitReset 5 .h)

/-- `RES 5,L` (R123). -/
def execRes_5_L (s : State) : Host.Outcome State Fault Refusal := .next (s.bitReset 5 .l)

/-- `RES 5,[HL]` (R123). -/
def execRes_5_atHL (s : State) : Host.Outcome State Fault Refusal := .next (s.bitReset 5 .atHL)

/-- `RES 5,A` (R123). -/
def execRes_5_A (s : State) : Host.Outcome State Fault Refusal := .next (s.bitReset 5 .a)

/-- `RES 6,B` (R123). -/
def execRes_6_B (s : State) : Host.Outcome State Fault Refusal := .next (s.bitReset 6 .b)

/-- `RES 6,C` (R123). -/
def execRes_6_C (s : State) : Host.Outcome State Fault Refusal := .next (s.bitReset 6 .c)

/-- `RES 6,D` (R123). -/
def execRes_6_D (s : State) : Host.Outcome State Fault Refusal := .next (s.bitReset 6 .d)

/-- `RES 6,E` (R123). -/
def execRes_6_E (s : State) : Host.Outcome State Fault Refusal := .next (s.bitReset 6 .e)

/-- `RES 6,H` (R123). -/
def execRes_6_H (s : State) : Host.Outcome State Fault Refusal := .next (s.bitReset 6 .h)

/-- `RES 6,L` (R123). -/
def execRes_6_L (s : State) : Host.Outcome State Fault Refusal := .next (s.bitReset 6 .l)

/-- `RES 6,[HL]` (R123). -/
def execRes_6_atHL (s : State) : Host.Outcome State Fault Refusal := .next (s.bitReset 6 .atHL)

/-- `RES 6,A` (R123). -/
def execRes_6_A (s : State) : Host.Outcome State Fault Refusal := .next (s.bitReset 6 .a)

/-- `RES 7,B` (R123). -/
def execRes_7_B (s : State) : Host.Outcome State Fault Refusal := .next (s.bitReset 7 .b)

/-- `RES 7,C` (R123). -/
def execRes_7_C (s : State) : Host.Outcome State Fault Refusal := .next (s.bitReset 7 .c)

/-- `RES 7,D` (R123). -/
def execRes_7_D (s : State) : Host.Outcome State Fault Refusal := .next (s.bitReset 7 .d)

/-- `RES 7,E` (R123). -/
def execRes_7_E (s : State) : Host.Outcome State Fault Refusal := .next (s.bitReset 7 .e)

/-- `RES 7,H` (R123). -/
def execRes_7_H (s : State) : Host.Outcome State Fault Refusal := .next (s.bitReset 7 .h)

/-- `RES 7,L` (R123). -/
def execRes_7_L (s : State) : Host.Outcome State Fault Refusal := .next (s.bitReset 7 .l)

/-- `RES 7,[HL]` (R123). -/
def execRes_7_atHL (s : State) : Host.Outcome State Fault Refusal := .next (s.bitReset 7 .atHL)

/-- `RES 7,A` (R123). -/
def execRes_7_A (s : State) : Host.Outcome State Fault Refusal := .next (s.bitReset 7 .a)

/-- `SET 0,B` (R124). -/
def execSet_0_B (s : State) : Host.Outcome State Fault Refusal := .next (s.bitSet 0 .b)

/-- `SET 0,C` (R124). -/
def execSet_0_C (s : State) : Host.Outcome State Fault Refusal := .next (s.bitSet 0 .c)

/-- `SET 0,D` (R124). -/
def execSet_0_D (s : State) : Host.Outcome State Fault Refusal := .next (s.bitSet 0 .d)

/-- `SET 0,E` (R124). -/
def execSet_0_E (s : State) : Host.Outcome State Fault Refusal := .next (s.bitSet 0 .e)

/-- `SET 0,H` (R124). -/
def execSet_0_H (s : State) : Host.Outcome State Fault Refusal := .next (s.bitSet 0 .h)

/-- `SET 0,L` (R124). -/
def execSet_0_L (s : State) : Host.Outcome State Fault Refusal := .next (s.bitSet 0 .l)

/-- `SET 0,[HL]` (R124). -/
def execSet_0_atHL (s : State) : Host.Outcome State Fault Refusal := .next (s.bitSet 0 .atHL)

/-- `SET 0,A` (R124). -/
def execSet_0_A (s : State) : Host.Outcome State Fault Refusal := .next (s.bitSet 0 .a)

/-- `SET 1,B` (R124). -/
def execSet_1_B (s : State) : Host.Outcome State Fault Refusal := .next (s.bitSet 1 .b)

/-- `SET 1,C` (R124). -/
def execSet_1_C (s : State) : Host.Outcome State Fault Refusal := .next (s.bitSet 1 .c)

/-- `SET 1,D` (R124). -/
def execSet_1_D (s : State) : Host.Outcome State Fault Refusal := .next (s.bitSet 1 .d)

/-- `SET 1,E` (R124). -/
def execSet_1_E (s : State) : Host.Outcome State Fault Refusal := .next (s.bitSet 1 .e)

/-- `SET 1,H` (R124). -/
def execSet_1_H (s : State) : Host.Outcome State Fault Refusal := .next (s.bitSet 1 .h)

/-- `SET 1,L` (R124). -/
def execSet_1_L (s : State) : Host.Outcome State Fault Refusal := .next (s.bitSet 1 .l)

/-- `SET 1,[HL]` (R124). -/
def execSet_1_atHL (s : State) : Host.Outcome State Fault Refusal := .next (s.bitSet 1 .atHL)

/-- `SET 1,A` (R124). -/
def execSet_1_A (s : State) : Host.Outcome State Fault Refusal := .next (s.bitSet 1 .a)

/-- `SET 2,B` (R124). -/
def execSet_2_B (s : State) : Host.Outcome State Fault Refusal := .next (s.bitSet 2 .b)

/-- `SET 2,C` (R124). -/
def execSet_2_C (s : State) : Host.Outcome State Fault Refusal := .next (s.bitSet 2 .c)

/-- `SET 2,D` (R124). -/
def execSet_2_D (s : State) : Host.Outcome State Fault Refusal := .next (s.bitSet 2 .d)

/-- `SET 2,E` (R124). -/
def execSet_2_E (s : State) : Host.Outcome State Fault Refusal := .next (s.bitSet 2 .e)

/-- `SET 2,H` (R124). -/
def execSet_2_H (s : State) : Host.Outcome State Fault Refusal := .next (s.bitSet 2 .h)

/-- `SET 2,L` (R124). -/
def execSet_2_L (s : State) : Host.Outcome State Fault Refusal := .next (s.bitSet 2 .l)

/-- `SET 2,[HL]` (R124). -/
def execSet_2_atHL (s : State) : Host.Outcome State Fault Refusal := .next (s.bitSet 2 .atHL)

/-- `SET 2,A` (R124). -/
def execSet_2_A (s : State) : Host.Outcome State Fault Refusal := .next (s.bitSet 2 .a)

/-- `SET 3,B` (R124). -/
def execSet_3_B (s : State) : Host.Outcome State Fault Refusal := .next (s.bitSet 3 .b)

/-- `SET 3,C` (R124). -/
def execSet_3_C (s : State) : Host.Outcome State Fault Refusal := .next (s.bitSet 3 .c)

/-- `SET 3,D` (R124). -/
def execSet_3_D (s : State) : Host.Outcome State Fault Refusal := .next (s.bitSet 3 .d)

/-- `SET 3,E` (R124). -/
def execSet_3_E (s : State) : Host.Outcome State Fault Refusal := .next (s.bitSet 3 .e)

/-- `SET 3,H` (R124). -/
def execSet_3_H (s : State) : Host.Outcome State Fault Refusal := .next (s.bitSet 3 .h)

/-- `SET 3,L` (R124). -/
def execSet_3_L (s : State) : Host.Outcome State Fault Refusal := .next (s.bitSet 3 .l)

/-- `SET 3,[HL]` (R124). -/
def execSet_3_atHL (s : State) : Host.Outcome State Fault Refusal := .next (s.bitSet 3 .atHL)

/-- `SET 3,A` (R124). -/
def execSet_3_A (s : State) : Host.Outcome State Fault Refusal := .next (s.bitSet 3 .a)

/-- `SET 4,B` (R124). -/
def execSet_4_B (s : State) : Host.Outcome State Fault Refusal := .next (s.bitSet 4 .b)

/-- `SET 4,C` (R124). -/
def execSet_4_C (s : State) : Host.Outcome State Fault Refusal := .next (s.bitSet 4 .c)

/-- `SET 4,D` (R124). -/
def execSet_4_D (s : State) : Host.Outcome State Fault Refusal := .next (s.bitSet 4 .d)

/-- `SET 4,E` (R124). -/
def execSet_4_E (s : State) : Host.Outcome State Fault Refusal := .next (s.bitSet 4 .e)

/-- `SET 4,H` (R124). -/
def execSet_4_H (s : State) : Host.Outcome State Fault Refusal := .next (s.bitSet 4 .h)

/-- `SET 4,L` (R124). -/
def execSet_4_L (s : State) : Host.Outcome State Fault Refusal := .next (s.bitSet 4 .l)

/-- `SET 4,[HL]` (R124). -/
def execSet_4_atHL (s : State) : Host.Outcome State Fault Refusal := .next (s.bitSet 4 .atHL)

/-- `SET 4,A` (R124). -/
def execSet_4_A (s : State) : Host.Outcome State Fault Refusal := .next (s.bitSet 4 .a)

/-- `SET 5,B` (R124). -/
def execSet_5_B (s : State) : Host.Outcome State Fault Refusal := .next (s.bitSet 5 .b)

/-- `SET 5,C` (R124). -/
def execSet_5_C (s : State) : Host.Outcome State Fault Refusal := .next (s.bitSet 5 .c)

/-- `SET 5,D` (R124). -/
def execSet_5_D (s : State) : Host.Outcome State Fault Refusal := .next (s.bitSet 5 .d)

/-- `SET 5,E` (R124). -/
def execSet_5_E (s : State) : Host.Outcome State Fault Refusal := .next (s.bitSet 5 .e)

/-- `SET 5,H` (R124). -/
def execSet_5_H (s : State) : Host.Outcome State Fault Refusal := .next (s.bitSet 5 .h)

/-- `SET 5,L` (R124). -/
def execSet_5_L (s : State) : Host.Outcome State Fault Refusal := .next (s.bitSet 5 .l)

/-- `SET 5,[HL]` (R124). -/
def execSet_5_atHL (s : State) : Host.Outcome State Fault Refusal := .next (s.bitSet 5 .atHL)

/-- `SET 5,A` (R124). -/
def execSet_5_A (s : State) : Host.Outcome State Fault Refusal := .next (s.bitSet 5 .a)

/-- `SET 6,B` (R124). -/
def execSet_6_B (s : State) : Host.Outcome State Fault Refusal := .next (s.bitSet 6 .b)

/-- `SET 6,C` (R124). -/
def execSet_6_C (s : State) : Host.Outcome State Fault Refusal := .next (s.bitSet 6 .c)

/-- `SET 6,D` (R124). -/
def execSet_6_D (s : State) : Host.Outcome State Fault Refusal := .next (s.bitSet 6 .d)

/-- `SET 6,E` (R124). -/
def execSet_6_E (s : State) : Host.Outcome State Fault Refusal := .next (s.bitSet 6 .e)

/-- `SET 6,H` (R124). -/
def execSet_6_H (s : State) : Host.Outcome State Fault Refusal := .next (s.bitSet 6 .h)

/-- `SET 6,L` (R124). -/
def execSet_6_L (s : State) : Host.Outcome State Fault Refusal := .next (s.bitSet 6 .l)

/-- `SET 6,[HL]` (R124). -/
def execSet_6_atHL (s : State) : Host.Outcome State Fault Refusal := .next (s.bitSet 6 .atHL)

/-- `SET 6,A` (R124). -/
def execSet_6_A (s : State) : Host.Outcome State Fault Refusal := .next (s.bitSet 6 .a)

/-- `SET 7,B` (R124). -/
def execSet_7_B (s : State) : Host.Outcome State Fault Refusal := .next (s.bitSet 7 .b)

/-- `SET 7,C` (R124). -/
def execSet_7_C (s : State) : Host.Outcome State Fault Refusal := .next (s.bitSet 7 .c)

/-- `SET 7,D` (R124). -/
def execSet_7_D (s : State) : Host.Outcome State Fault Refusal := .next (s.bitSet 7 .d)

/-- `SET 7,E` (R124). -/
def execSet_7_E (s : State) : Host.Outcome State Fault Refusal := .next (s.bitSet 7 .e)

/-- `SET 7,H` (R124). -/
def execSet_7_H (s : State) : Host.Outcome State Fault Refusal := .next (s.bitSet 7 .h)

/-- `SET 7,L` (R124). -/
def execSet_7_L (s : State) : Host.Outcome State Fault Refusal := .next (s.bitSet 7 .l)

/-- `SET 7,[HL]` (R124). -/
def execSet_7_atHL (s : State) : Host.Outcome State Fault Refusal := .next (s.bitSet 7 .atHL)

/-- `SET 7,A` (R124). -/
def execSet_7_A (s : State) : Host.Outcome State Fault Refusal := .next (s.bitSet 7 .a)

end Sys2Proof.Machine
end

