-- ==== Sys2Proof/Machine/System.lean ====
section
/-! DEFINITION. System and interrupt-control instructions of 46_system.md (R137 to R143). The operations that the
instructions share come first, then one meaning for each row of the table. -/

namespace Sys2Proof.Machine

/-- The value EI gives the pending request: `EI_DELAY` (R25, R141). -/
def State.eiDelayCount (s : State) : Fin 3 :=
  match s.params.eiDelay with
  | .one => 1
  | .two => 2

/-- `STOP` behind its ignored byte (R139). -/
def State.stop (s : State) : State :=
  match s.params.stopMode with
  | .nop => s
  | .hang => s.setStopped true

/-! ### One meaning for each instruction -/

/-- `NOP` (R137). -/
def execNop (s : State) : Host.Outcome State Fault Refusal := .next s

/-- `STOP` (R139). -/
def execStop (_x : Byte) (s : State) : Host.Outcome State Fault Refusal := .next (s.stop)

/-- `HALT` (R138), without the HALT bug (D11; PRESUMED, unsafe, notes/assumptions/16.md). -/
def execHalt (s : State) : Host.Outcome State Fault Refusal := .next (s.setHalted true)

/-- `PREFIX CB` (R142; DEDUCED, safe, notes/assumptions/11.md). -/
def execPrefix_CB (b : Byte) (s : State) : Host.Outcome State Fault Refusal := .next (s.prefixed b)

/-- Opcode 0xD3, unrecognised (R143). -/
def execIllegal_D3 (s : State) : Host.Outcome State Fault Refusal := .next (s.raiseIllegalOpcode 0xD3)

/-- Opcode 0xDB, unrecognised (R143). -/
def execIllegal_DB (s : State) : Host.Outcome State Fault Refusal := .next (s.raiseIllegalOpcode 0xDB)

/-- Opcode 0xDD, unrecognised (R143). -/
def execIllegal_DD (s : State) : Host.Outcome State Fault Refusal := .next (s.raiseIllegalOpcode 0xDD)

/-- Opcode 0xE3, unrecognised (R143). -/
def execIllegal_E3 (s : State) : Host.Outcome State Fault Refusal := .next (s.raiseIllegalOpcode 0xE3)

/-- Opcode 0xE4, unrecognised (R143). -/
def execIllegal_E4 (s : State) : Host.Outcome State Fault Refusal := .next (s.raiseIllegalOpcode 0xE4)

/-- Opcode 0xEB, unrecognised (R143). -/
def execIllegal_EB (s : State) : Host.Outcome State Fault Refusal := .next (s.raiseIllegalOpcode 0xEB)

/-- Opcode 0xEC, unrecognised (R143). -/
def execIllegal_EC (s : State) : Host.Outcome State Fault Refusal := .next (s.raiseIllegalOpcode 0xEC)

/-- Opcode 0xED, unrecognised (R143). -/
def execIllegal_ED (s : State) : Host.Outcome State Fault Refusal := .next (s.raiseIllegalOpcode 0xED)

/-- `DI` (R140). -/
def execDi (s : State) : Host.Outcome State Fault Refusal := .next ((s.setIME false).setEiCount 0)

/-- Opcode 0xF4, unrecognised (R143). -/
def execIllegal_F4 (s : State) : Host.Outcome State Fault Refusal := .next (s.raiseIllegalOpcode 0xF4)

/-- `EI` (R141). -/
def execEi (s : State) : Host.Outcome State Fault Refusal := .next (s.setEiCount s.eiDelayCount)

/-- Opcode 0xFC, unrecognised (R143). -/
def execIllegal_FC (s : State) : Host.Outcome State Fault Refusal := .next (s.raiseIllegalOpcode 0xFC)

/-- Opcode 0xFD, unrecognised (R143). -/
def execIllegal_FD (s : State) : Host.Outcome State Fault Refusal := .next (s.raiseIllegalOpcode 0xFD)

end Sys2Proof.Machine
end

