-- ==== Sys2Proof/Machine/Interrupts.lean ====
section
/-! DEFINITION. The interrupt controller's part of a step (60_exceptions.md R149 to R159): the EI promotion, the pending test, the
priority, the HALT wake-up and the service. -/

namespace Sys2Proof.Machine

/-- The EI promotion at the start of a step (R152): a pending request counts down and sets IME when it reaches 0. -/
def State.eiPromote (s : State) : State :=
  match s.eiCount with
  | 0 => s
  | 1 => (s.setEiCount 0).setIME true
  | 2 => s.setEiCount 1

/-- The deliverable requests `IF & IE & 0x1F` (R149, R151). -/
def State.pending (s : State) : Byte := s.cell addrIF &&& s.cell addrIE &&& 0x1F

/-- The source of the lowest set bit (R155); none when no bit is set. -/
def lowestSource (p : Byte) : Option IrqSource :=
  if p.getLsbD 0 then some .vblank
  else if p.getLsbD 1 then some .lcdStat
  else if p.getLsbD 2 then some .timer
  else if p.getLsbD 3 then some .serial
  else if p.getLsbD 4 then some .joypad
  else none

/-- The HALT wake-up (R153): a deliverable request ends the wait, whatever IME is. -/
def State.wake (s : State) : State := if s.pending = 0 then s else s.setHalted false

/-- The interrupt check of a step (R149, R154): the wake-up, then at most one service. -/
def State.interruptCheck (s : State) : State :=
  match s.ime, lowestSource s.pending with
  | true, some i => s.wake.service i
  | _, _ => s.wake

/-- What a step does before it fetches (R149): the EI promotion, then the interrupt check. With `EI_DELAY = 1` and a request
deliverable the interrupt is taken in the step behind EI, before a DI there runs, as R149, R152 and R154 have it, against the
remark on `EI; DI` of R140 and R178 (DEDUCED, unsafe, notes/assumptions/22.md). -/
def State.beginStep (s : State) : State := s.eiPromote.interruptCheck

end Sys2Proof.Machine
end

