-- ==== Sys2Proof/Machine/Timer.lean ====
section
/-! DEFINITION. The timer (60_exceptions.md R160 to R162): one advance at the end of each step. -/

namespace Sys2Proof.Machine

/-- `TIMER_PERIOD[k]` for k = TAC[1:0] (R7, R160). -/
def Params.period (p : Params) (k : BitVec 2) : Nat :=
  match k.toNat with
  | 0 => 2 ^ p.timer.k0
  | 1 => 2 ^ p.timer.k1
  | 2 => 2 ^ p.timer.k2
  | _ => 2 ^ p.timer.k3

/-- Whether TIMA ticks when the counter has reached `n` (R160): the timer is enabled and `n` is a multiple of the period. -/
def State.timaTicks (s : State) (n : Nat) : Bool :=
  (s.cell addrTAC).getLsbD 2 && n % Params.period s.params ((s.cell addrTAC).extractLsb' 0 2) == 0

/-- The increment of TIMA, or on overflow its reload from TMA with the Timer request set in IF (R160, R161); direct changes of
the cells, past the bus (R37). -/
def State.tickTIMA (s : State) : State :=
  if s.cell addrTIMA = 0xFF then
    let t := s.setCell addrTIMA (s.cell addrTMA)
    t.setCell addrIF (t.cell addrIF ||| 0x04)
  else s.setCell addrTIMA (s.cell addrTIMA + 1)

/-- `TimerAdvance()` (R160). -/
def State.timerAdvance (s : State) : State :=
  let n := (s.counter + 1) % 2 ^ s.params.counterBits
  if s.timaTicks n then ((s.setCounter n).setLastTick n).tickTIMA else s.setCounter n

end Sys2Proof.Machine
end

