-- ==== Sys2Proof/Machine/Trace.lean ====
section
/-! DEFINITION. The host's trace line (70_reset_and_hazards.md R176): what it records and how it is written. -/

namespace Sys2Proof.Machine

/-- The trace line of a state about to fetch (R176): PCMEM is `read_range(PC, 4)`, without warnings, addresses wrapping. -/
def State.traceLine (s : State) : TraceLine :=
  { regs := s.regs, sp := s.sp, pc := s.pc, mem := s.readRange s.pc 4 }

/-- `Trace()` (R149, R176): the line is appended to the host's log. -/
def State.traced (s : State) : State :=
  s.setConsole { s.console with trace := s.console.trace ++ [s.traceLine] }

/-- An upper-case hexadecimal digit. -/
def hexDigit (n : Nat) : Char := Char.ofNat (if n < 10 then 48 + n else 55 + n)

/-- `%02X`. -/
def hex2 (v : Byte) : List Char := [hexDigit (v.toNat / 16), hexDigit (v.toNat % 16)]

/-- `%04X`. -/
def hex4 (v : Word) : List Char := hex2 v.hiByte ++ hex2 v.loByte

/-- Bytes as `%02X`, separated by commas. -/
def hexList : List Byte → List Char
  | [] => []
  | [v] => hex2 v
  | v :: w :: vs => hex2 v ++ [','] ++ hexList (w :: vs)

/-- The text of a trace line (R176), without a terminator. -/
def TraceLine.render (t : TraceLine) : List Char :=
  ['A', ':'] ++ hex2 (t.regs.get .a) ++ [' ', 'F', ':'] ++ hex2 (t.regs.get .f) ++
  [' ', 'B', ':'] ++ hex2 (t.regs.get .b) ++ [' ', 'C', ':'] ++ hex2 (t.regs.get .c) ++
  [' ', 'D', ':'] ++ hex2 (t.regs.get .d) ++ [' ', 'E', ':'] ++ hex2 (t.regs.get .e) ++
  [' ', 'H', ':'] ++ hex2 (t.regs.get .h) ++ [' ', 'L', ':'] ++ hex2 (t.regs.get .l) ++
  [' ', 'S', 'P', ':'] ++ hex4 t.sp ++ [' ', 'P', 'C', ':'] ++ hex4 t.pc ++
  [' ', 'P', 'C', 'M', 'E', 'M', ':'] ++ hexList t.mem

end Sys2Proof.Machine
end

