-- ==== Sys2Proof/Machine/Sequencer.lean ====
section
/-! DEFINITION. The control sequencer (60_exceptions.md R149): the fetch, the order of a step, the end of a run
(70_reset_and_hazards.md R177), and how an instruction is placed where the next step fetches it. -/

namespace Sys2Proof.Machine

/-- `Fetch8()` `n` times, as far as the state goes (R10, R18): PC behind the bytes, and each read's warning. -/
def State.fetched (s : State) : Nat → State
  | 0 => s
  | n + 1 => ((s.noteRead s.pc).setPC (s.pc + 1)).fetched n

/-- The instruction at PC (R10, R64): its opcode byte and, where it has them, the bytes behind it, all read before the effect
(R53; DEDUCED, safe, notes/assumptions/18.md). -/
def State.instrAtPC (s : State) : Instr := decodeOp (s.memRead s.pc) (s.memRead (s.pc + 1)) (s.memRead (s.pc + 2))

/-- The length of the instruction at PC, from its first byte (R60). -/
def State.lengthAtPC (s : State) : Nat := opLength (s.memRead s.pc)

/-- The end of a step (R149): the timer advance, unless the step raised the fault (R145). -/
def State.endStep (s : State) : State :=
  match s.fault with
  | some _ => s
  | none => s.timerAdvance

/-- The end of a step that executed an instruction. -/
def finishStep (o : Host.Outcome State Fault Refusal) : Host.Outcome State Fault Refusal :=
  match o with
  | .next t => .next t.endStep
  | .fault r => .fault r
  | .refused r => .refused r

/-- The number of steps that have run (R177). -/
def State.countStep (s : State) : State := s.setConsole { s.console with stepsRun := s.console.stepsRun + 1 }

/-- Whether `MAX_STEPS` steps have run (R7, R177). -/
def State.fuelSpent (s : State) : Bool :=
  match s.params.maxSteps with
  | none => false
  | some n => decide (n ≤ s.console.stepsRun)

/-- Whether the run has ended, and how, in the order of R177; a core whose run has ended takes no step (R146, R149; DEDUCED,
safe, notes/assumptions/6.md). -/
def State.endOfRun (s : State) : Option Fault :=
  match s.fault, s.console.endRequested with
  | some f, _ => some (.illegalOpcode f)
  | none, some .passed => some .passed
  | none, some .failed => some .failed
  | none, none => if s.stopped then some .stopped else if s.fuelSpent then some .outOfFuel else none

/-- `Step()` of a running core (R149); nothing but the core acts in it (D33; PRESUMED, unsafe, notes/assumptions/20.md). -/
def State.runStep (s : State) : Host.Outcome State Fault Refusal :=
  let t := s.countStep.beginStep
  if t.halted then .next t.endStep
  else finishStep (exec t.instrAtPC (t.traced.fetched t.lengthAtPC))

/-- One step, or the end of the run. -/
def State.stepOrEnd (s : State) : Host.Outcome State Fault Refusal :=
  match s.endOfRun with
  | some r => .fault r
  | none => s.runStep

/-! ### Placing an instruction -/

/-- Storing a byte behind the bus, in ROM too: what inserting a cartridge or an earlier program did. -/
def State.place (s : State) (a : Word) (v : Byte) : State := s.setCell a v

/-- The state with the run going on: no fault, no end asked for, not stopped, not halted, fuel left. -/
def State.resumed (s : State) : State :=
  let t := ((s.setFault none).setStopped false).setHalted false
  { t with
    console := { t.console with endRequested := none }
    params := { t.params with maxSteps := if t.fuelSpent then none else t.params.maxSteps } }

/-- The state with PC at three bytes the bus owns: PC itself where it is so, else the reset entry point 0x0100. -/
def State.atPlaceable (s : State) : State :=
  if backed s.pc && backed (s.pc + 1) && backed (s.pc + 2) then s else s.setPC 0x0100

/-- The state with no interrupt to be taken in the next step. -/
def State.undisturbed (s : State) : State :=
  if s.eiPromote.ime && s.pending != 0 then (s.setIME false).setEiCount 0 else s

/-- The state whose next step fetches three bytes: they are stored at PC, and what would keep the next step from fetching
there is cleared, if it is set (DESIGN CHOICE, safe, notes/assumptions/17.md). -/
def State.withProgramBytes (s : State) (b : Byte × Byte × Byte) : State :=
  let t := s.resumed.atPlaceable
  (((t.place t.pc b.1).place (t.pc + 1) b.2.1).place (t.pc + 2) b.2.2).undisturbed

end Sys2Proof.Machine
end

