-- ==== Sys2Proof/Machine/Step.lean ====
section
/-! DEFINITION. One step of the machine, and the instruction placed where the next step fetches it. -/

namespace Sys2Proof.Machine

/-- One step (60_exceptions.md R149): the next state, or the fault that names how the run has ended (R177). -/
def step (s : State) : Host.Outcome State Fault Refusal := s.stepOrEnd

/-- The state with the instruction of an opcode-table word stored where `step` fetches its next instruction. -/
def State.withFetchWord (s : State) (nbits w : Nat) : State := s.withProgramBytes (tableBytes nbits w)

end Sys2Proof.Machine
end

