-- ==== Sys2Proof/Machine/Launch.lean ====
section
/-! DEFINITION. The launch (70_reset_and_hazards.md R168 to R171): an image is accepted or refused by name, and an accepted image
gives the state in which the run begins. -/

namespace Sys2Proof.Machine

/-- The names of a refused launch (R148, R169). -/
inductive LaunchRefusal where
  | unreadable
  | tooShort
  | logoMismatch
  | checksumMismatch
deriving DecidableEq, Repr

/-- Byte `a` of an image; 0x00 past its end, where no rule reads it. -/
def imageByte (image : List Byte) (a : Nat) : Byte := image.getD a 0

/-- The header checksum over the `n` bytes from `a` on, going on from `x` (R171). -/
def headerSum (image : List Byte) : Nat → Nat → Byte → Byte
  | 0, _, x => x
  | n + 1, a, x => headerSum image n (a + 1) (x - imageByte image a - 1)

/-- `HeaderChecksum(rom)`: over 0x0134 to 0x014C (R171). -/
def headerChecksum (image : List Byte) : Byte := headerSum image 25 0x0134 0

/-- The bytes 0x0104 to 0x0133 of an image (R169). -/
def imageLogo (image : List Byte) : List Byte := (image.drop 0x0104).take 48

/-- Image acceptance (R169): the checks in order, the first that fails names the refusal; `none` is an image that cannot be
read. -/
def refusalOf (logo : List Byte) (image : Option (List Byte)) : Option LaunchRefusal :=
  match image with
  | none => some .unreadable
  | some img =>
    if img.length < 0x0150 then some .tooShort
    else if imageLogo img ≠ logo then some .logoMismatch
    else if headerChecksum img ≠ imageByte img 0x014D then some .checksumMismatch
    else none

/-- The ROM snapshot (R39): the image's byte, `ROM_PAD(a)` past its end. -/
def romByte (cfg : LaunchConfig) (image : List Byte) (a : Nat) : Byte :=
  if a < image.length then imageByte image a else cfg.romPad a

/-- What the launch puts behind the bus (R36, R168): the ROM snapshot, `INIT_MEM(a)` in every writable byte. -/
def initialByte (cfg : LaunchConfig) (image : List Byte) (a : Nat) : Byte :=
  match (Region.of (BitVec.ofNat 16 a)).kind with
  | .rom => romByte cfg image a
  | .cells => cfg.initMem a
  | .unmapped => 0x00
  | .prohibited => 0x00

/-- The launch (R168): the state in which the run begins, or the refusal. -/
def launch (cfg : LaunchConfig) (image : Option (List Byte)) : Except LaunchRefusal State :=
  match refusalOf cfg.logo image, image with
  | some r, _ => .error r
  | none, none => .error .unreadable
  | none, some img => .ok (State.atLaunch cfg.params (Memory.tabulate (initialByte cfg img) 0x10000 []))

end Sys2Proof.Machine
end

