-- ==== Sys2Proof/WellFormed.lean ====
section
/-! DEFINITION. Which terms of `Instr` are instructions of the machine. Every immediate is a bit vector of its own width, so
an operand cannot be out of range. One check is left: the row PREFIX_CB of spec/opcode_table.json is the first byte of
every prefixed instruction and no instruction beside them (46_system.md rule R142: "The prefix and its second byte are one
instruction"), so the two bytes 0xCB s are the prefixed instruction that s selects (R68), and `prefix_CB s` is a second
name for it that the decoder never gives (DEDUCED, safe, notes/assumptions/11.md). -/

namespace Sys2Proof

/-- Whether the term is the one name of its bytes: all but the escape byte 0xCB on its own (R68, R142). -/
def Instr.wellFormed : Instr → Bool
  | .prefix_CB _ => false
  | _ => true

end Sys2Proof
end

