-- ==== Sys2Proof/Safety.lean ====
section
/-! DEFINITION. The terms in which claims about the machine are stated: the invariant of its states, what an access leaves in the
host's records, and the frames that say what an instruction leaves unchanged. -/

namespace Sys2Proof.Machine

/-! ### The invariant -/

/-- Whether every address listed is one at which the bus owns a byte (R34, R38): nothing is stored in a hole. -/
def Memory.onBus (m : Memory) : Bool := m.all fun e => decide (e.1 < 0x10000) && backed (BitVec.ofNat 16 e.1)

/-- The states the spec describes: memory in canonical form and only where the bus owns bytes (R34, R38), F's low nibble
zero (R21), the counters within COUNTER_BITS (R29), a pending EI within `EI_DELAY` (R25), stopped with `STOP_MODE = HANG`
only (R27). -/
structure State.Inv (s : State) : Prop where
  canonical : Memory.wf s.mem = true
  onBus     : Memory.onBus s.mem = true
  flagLow   : s.regs.f &&& 0x0F = 0
  counter   : s.counter < 2 ^ s.params.counterBits
  lastTick  : s.lastTick < 2 ^ s.params.counterBits
  eiCount   : s.eiCount ≤ s.eiDelayCount
  stopped   : s.stopped = true → s.params.stopMode = .hang

/-! ### What an access leaves in the host's records -/

/-- The warning of a bus read (R40), as the list that the log grows by. -/
def readWarnings (a : Word) : List Warning :=
  match (Region.of a).kind with
  | .rom => []
  | .cells => []
  | .unmapped => [{ kind := .unmapped, addr := a }]
  | .prohibited => [{ kind := .prohibited, addr := a }]

/-- The warning of a bus write (R41). -/
def writeWarnings (a : Word) : List Warning :=
  match (Region.of a).kind with
  | .rom => [{ kind := .romWrite, addr := a }]
  | .cells => []
  | .unmapped => [{ kind := .unmapped, addr := a }]
  | .prohibited => [{ kind := .prohibited, addr := a }]

/-- The warning of reading an r8 operand: the bus read's for [HL], none for a register (R55). -/
def r8Warnings (s : State) (r : R8) : List Warning :=
  match r8Direct r with
  | some _ => []
  | none => readWarnings s.hl

/-- The records with warnings appended and nothing else changed. -/
def Console.warned (k : Console) (ws : List Warning) : Console := { k with warnings := k.warnings ++ ws }

/-- The records behind a store of `v` at `a`, with `sb` in SB: the serial event of a write of 0x81 to SC, nothing for any
other store (R32, R174). -/
def Console.stored (k : Console) (a : Word) (v sb : Byte) : Console :=
  if a = addrSC ∧ v = 0x81 then k.serial sb else k

/-- The deliverable requests, bit by bit as R151 has them: `IF & IE & 0x1F`, read through the bus. -/
def State.deliverable (s : State) : Byte := s.memRead 0xFF0F &&& s.memRead 0xFFFF &&& 0x1F

/-! ### Frames -/

/-- Every 8-bit register but the listed ones is unchanged. -/
def RegsEqBut (rs : List Reg8) (s t : State) : Prop := ∀ r, r ∉ rs → t.reg r = s.reg r

/-- Nothing of the interrupt and control state (R24 to R28), the timer's counters (R29) or the parameters has changed. -/
structure ControlEq (s t : State) : Prop where
  ime      : t.ime = s.ime
  eiCount  : t.eiCount = s.eiCount
  halted   : t.halted = s.halted
  stopped  : t.stopped = s.stopped
  fault    : t.fault = s.fault
  counter  : t.counter = s.counter
  lastTick : t.lastTick = s.lastTick
  params   : t.params = s.params

/-- Every byte of memory reads as before. -/
def MemEq (s t : State) : Prop := ∀ x, t.memRead x = s.memRead x

/-- Every byte of memory reads as before, but the byte at `a`, which is `v` where `a` is writable (R41). -/
def MemStored (a : Word) (v : Byte) (s t : State) : Prop :=
  ∀ x, t.memRead x = if x = a ∧ writable a = true then v else s.memRead x

/-- The frame of a form that stores nothing and transfers no control: all but the listed registers is unchanged, and the
host's log grows by the warnings `ws` alone. -/
structure Quiet (rs : List Reg8) (ws : List Warning) (s t : State) : Prop where
  regs    : RegsEqBut rs s t
  sp      : t.sp = s.sp
  pc      : t.pc = s.pc
  control : ControlEq s t
  mem     : MemEq s t
  console : t.console = s.console.warned ws

/-- The frame of a form that stores the byte `v` at `a`: all but the listed registers and that byte is unchanged; the log grows
by `ws` and the store's own warning, and a store of 0x81 to SC is a serial event. -/
structure Stores (rs : List Reg8) (a : Word) (v : Byte) (ws : List Warning) (s t : State) : Prop where
  regs    : RegsEqBut rs s t
  sp      : t.sp = s.sp
  pc      : t.pc = s.pc
  control : ControlEq s t
  mem     : MemStored a v s t
  console : t.console = (s.console.warned (ws ++ writeWarnings a)).stored a v (s.memRead addrSB)

/-- Writing `v` to an r8 operand (R55), all else but the listed registers unchanged: a register destination holds it; for
[HL] it is stored there. -/
def WritesR8 (r : R8) (v : Byte) (rs : List Reg8) (ws : List Warning) (s t : State) : Prop :=
  match r8Direct r with
  | some q => t.reg q = v ∧ Quiet (q :: rs) ws s t
  | none => Stores rs s.hl v ws s t

/-- Memory behind `Push16(v)` (R47): the low byte of `v` at SP - 2, the high byte at SP - 1, each where it is writable, and
every other byte as before. -/
def MemPushed (v : Word) (s t : State) : Prop :=
  ∀ x, t.memRead x =
    if x = s.sp - 2 ∧ writable (s.sp - 2) = true then v.loByte
    else if x = s.sp - 1 ∧ writable (s.sp - 1) = true then v.hiByte
    else s.memRead x

/-- The host's records behind `Push16(v)`: the warnings of its two writes in their order (R41, R47) and, where one of them
writes 0x81 to SC, the serial event with the byte SB holds then (R174). -/
def pushConsole (v : Word) (s : State) : Console :=
  (((s.console.warned (writeWarnings (s.sp - 1))).stored (s.sp - 1) v.hiByte (s.memRead addrSB)).warned
    (writeWarnings (s.sp - 2))).stored (s.sp - 2) v.loByte
      (if s.sp - 1 = addrSB then v.hiByte else s.memRead addrSB)

/-- The frame of a push of `v`: SP two lower, memory and the host's records as `Push16` leaves them, all but the listed
registers and PC unchanged. -/
structure Pushes (v : Word) (s t : State) : Prop where
  regs    : RegsEqBut [] s t
  sp      : t.sp = s.sp - 2
  mem     : MemPushed v s t
  console : t.console = pushConsole v s

/-- The frame of a pop: SP two higher, memory unchanged, the warnings of the two reads. -/
structure Pops (rs : List Reg8) (s t : State) : Prop where
  regs    : RegsEqBut rs s t
  sp      : t.sp = s.sp + 2
  mem     : MemEq s t
  console : t.console = s.console.warned (readWarnings s.sp ++ readWarnings (s.sp + 1))

/-- The frame of a jump to `a`: PC there, and nothing else changed. -/
structure JumpsTo (a : Word) (s t : State) : Prop where
  pc      : t.pc = a
  regs    : RegsEqBut [] s t
  sp      : t.sp = s.sp
  control : ControlEq s t
  mem     : MemEq s t
  console : t.console = s.console

/-- Writing `v` to an r16 operand (R56), all else but the listed registers unchanged. -/
def WritesR16 (p : R16) (v : Word) (rs : List Reg8) (s t : State) : Prop :=
  match p with
  | .bc => t.reg .b = v.hiByte ∧ t.reg .c = v.loByte ∧ Quiet (.b :: .c :: rs) [] s t
  | .de => t.reg .d = v.hiByte ∧ t.reg .e = v.loByte ∧ Quiet (.d :: .e :: rs) [] s t
  | .hl => t.reg .h = v.hiByte ∧ t.reg .l = v.loByte ∧ Quiet (.h :: .l :: rs) [] s t
  | .sp => t.sp = v ∧ RegsEqBut rs s t ∧ t.pc = s.pc ∧ ControlEq s t ∧ MemEq s t ∧ t.console = s.console

/-! ### Encodings and values as the spec writes them -/

/-- The encoding of an instruction with first byte `op` (R60, R64 to R67): its length, and the instruction for every immediate
byte `n` and, behind it, `hi`. -/
def Encodes (op : Byte) (len : Nat) (i : Byte → Byte → Instr) : Prop :=
  opLength op = len ∧ ∀ n hi, decodeOp op n hi = i n hi

/-- The encoding of an instruction behind 0xCB (R68): two bytes, the second of which selects it. -/
def EncodesPrefixed (second : Byte) (i : Instr) : Prop := opLength 0xCB = 2 ∧ ∀ hi, decodeOp 0xCB second hi = i

/-- The value of a signed offset byte (R63). -/
def signedValue (e : Byte) : Int := if e.getLsbD 7 then (e.toNat : Int) - 256 else e.toNat

/-- The first bytes that are no instruction (R69). -/
def illegalBytes : List Byte := [0xD3, 0xDB, 0xDD, 0xE3, 0xE4, 0xEB, 0xEC, 0xED, 0xF4, 0xFC, 0xFD]

/-- Bit `i` of the result of a rotate or shift, bit by bit (R114 to R121). -/
def rotBit (op : RotOp) (v : Byte) (c : Bool) (i : Nat) : Bool :=
  match op with
  | .rlc => v.getLsbD ((i + 7) % 8)
  | .rrc => v.getLsbD ((i + 1) % 8)
  | .rl => if i = 0 then c else v.getLsbD (i - 1)
  | .rr => if i = 7 then c else v.getLsbD (i + 1)
  | .sla => if i = 0 then false else v.getLsbD (i - 1)
  | .sra => if i = 7 then v.getLsbD 7 else v.getLsbD (i + 1)
  | .swap => v.getLsbD ((i + 4) % 8)
  | .srl => if i = 7 then false else v.getLsbD (i + 1)

/-- The bit a rotate or shift moves out, which becomes C; none for SWAP, which clears C (R114 to R121). -/
def rotOut (op : RotOp) (v : Byte) : Bool :=
  match op with
  | .rlc => v.getLsbD 7
  | .rrc => v.getLsbD 0
  | .rl => v.getLsbD 7
  | .rr => v.getLsbD 0
  | .sla => v.getLsbD 7
  | .sra => v.getLsbD 0
  | .swap => false
  | .srl => v.getLsbD 0

/-- The flags Z, N, H, C of a state, together (R19). -/
def FlagsAre (t : State) (z n h c : Bool) : Prop :=
  t.flag .z = z ∧ t.flag .n = n ∧ t.flag .h = h ∧ t.flag .c = c

/-- The flags of `A + v + c` (R91, R92). -/
def AddFlags (a v : Byte) (c : Nat) (t : State) : Prop :=
  FlagsAre t (decide ((a.toNat + v.toNat + c) % 256 = 0)) false (decide (a.toNat % 16 + v.toNat % 16 + c > 0xF))
    (decide (a.toNat + v.toNat + c > 0xFF))

/-- The flags of `A - v - c` (R93, R94, R98). -/
def SubFlags (a v : Byte) (c : Nat) (t : State) : Prop :=
  FlagsAre t (decide (((a.toNat : Int) - v.toNat - c) % 256 = 0)) true (decide (a.toNat % 16 < v.toNat % 16 + c))
    (decide (a.toNat < v.toNat + c))

/-! ### Two runs -/

/-- The state of the core and its memory without the host's logs that nothing reads: the trace, the echoed bytes and the
warnings (R35, R147, R176). -/
def State.withoutLogs (s : State) : State :=
  { s with console := { s.console with trace := [], echoed := [], warnings := [] } }

/-- Two outcomes that agree but for the logs. -/
def SameOutcome : Host.Outcome State Fault Refusal → Host.Outcome State Fault Refusal → Prop
  | .next t, .next u => t.withoutLogs = u.withoutLogs
  | .fault r, .fault q => r = q
  | .refused r, .refused q => r = q
  | _, _ => False

end Sys2Proof.Machine
end

