-- ==== Sys2Proof/Certificates/Slice0/Obligations.lean ====
section
/-! DEFINITION. The statements for the provers. Each docstring names the rules it formalises and, where it is about instructions,
the constructors of `Instr` it covers. Statements about a store assume the canonical memory of `State.Inv`, which
`StepKeepsInvariant` keeps; nothing else is assumed of a state but what a rule makes a condition. -/

open Sys2Proof Sys2Proof.Machine

/-! ### Encoding -/

/-- Words written out from 30_encoding.md, one or more for each family, decode to the instruction they stand for. The byte of
`JR NZ` is that of R62 and R64 (notes/assumptions/21.md). -/
def Obligations.WrittenWordsDecode : Prop :=
  decode [0b01111000] = .ok (.ld_A_B, []) ∧
  decode [0b00001110, 0x34] = .ok (.ld_C_n8 0x34, []) ∧
  decode [0b00110001, 0xF0, 0xDF] = .ok (.ld_SP_n16 0xDFF0, []) ∧
  decode [0b00110010, 0x99] = .ok (.ld_atHLd_A, [0x99]) ∧
  decode [0b11100000, 0x0F] = .ok (.ldh_atA8_A 0x0F, []) ∧
  decode [0b00001000, 0x00, 0xC1] = .ok (.ld_atN16_SP 0xC100, []) ∧
  decode [0b11110001] = .ok (.pop_AF, []) ∧
  decode [0b10001011] = .ok (.adc_A_E, []) ∧
  decode [0b11101110, 0x0F] = .ok (.xor_A_n8 0x0F, []) ∧
  decode [0b00110100] = .ok (.inc_atHL, []) ∧
  decode [0b00001001] = .ok (.add_HL_BC, []) ∧
  decode [0b11111000, 0x02] = .ok (.ld_HL_SPe8 0x02, []) ∧
  decode [0b00011111] = .ok (.rra, []) ∧
  decode [0b11001011, 0b00110111] = .ok (.swap_A, []) ∧
  decode [0b11001011, 0b01111100] = .ok (.bit_7_H, []) ∧
  decode [0b11001011, 0b10111110] = .ok (.res_7_atHL, []) ∧
  decode [0b00100000, 0xFC] = .ok (.jr_NZ_e8 0xFC, []) ∧
  decode [0b11001101, 0x34, 0x12] = .ok (.call_n16 0x1234, []) ∧
  decode [0b11101111] = .ok (.rst_28, []) ∧
  decode [0b01110110] = .ok (.halt, []) ∧
  decode [0b00010000, 0x5A] = .ok (.stop 0x5A, []) ∧
  decode [0b11011101] = .ok (.illegal_DD, []) ∧
  decode [0b11000011, 0x50] = .error (.truncated 0xC3)

/-- Decoding an encoded instruction gives it back, with the bytes behind it, for all 511 well-formed constructors at every
operand (R60 to R68). -/
def Obligations.DecodeInvertsEncode : Prop :=
  ∀ (i : Instr) (rest : List Byte), i.wellFormed = true → decode (encode i ++ rest) = .ok (i, rest)

/-- Whatever bytes decode are the encoding of what they decode to, which is well-formed: no two instructions share their bytes
and the decoder drops no bit (R60 to R68). -/
def Obligations.EncodeInvertsDecode : Prop :=
  ∀ (bs : List Byte) (i : Instr) (rest : List Byte), decode bs = .ok (i, rest) →
    i.wellFormed = true ∧ bs = encode i ++ rest ∧ 1 ≤ (encode i).length ∧ (encode i).length ≤ 3

/-- Whether an opcode is unrecognised depends only on its first byte: exactly the 11 bytes of R69 raise the fault (R69).
That STOP and its second byte are no fault is the spec's decision D12. -/
def Obligations.UnrecognisedOpcodesAreTheEleven : Prop :=
  ∀ (op n hi : Byte) (s : State), s.fault = none →
    ((∃ t f, exec (decodeOp op n hi) s = .next t ∧ t.fault = some f) ↔ op ∈ illegalBytes)

/-- `PREFIX CB` runs the prefixed instruction that the second byte selects, for all 256 second bytes, and completes (R68, R142).
That the row PREFIX_CB is a second name of those instructions is the model's reading (notes/assumptions/11.md). Constructor: prefix_CB. -/
def Obligations.PrefixRunsSelectedInstruction : Prop :=
  opLength 0xCB = 2 ∧
  ∀ (b hi : Byte) (s : State), ∃ t, exec (.prefix_CB b) s = .next t ∧ exec (decodeOp 0xCB b hi) s = .next t ∧
    t.pc = s.pc ∧ ControlEq s t

/-! ### Registers and operand tables -/

/-- Every write of F stores `v & 0xF0`, F's low nibble reads 0 whatever was stored, and a flag that an instruction writes, the
other three written with the value they have, is one bit of the high nibble and nothing else of F (R21). -/
def Obligations.FlagRegisterLowNibbleReadsZero : Prop :=
  ∀ (s : State) (v : Byte) (z n h c : Bool),
    (s.setReg .f v).reg .f = v &&& 0xF0 ∧ (s.setReg .f v).regs.f = v &&& 0xF0 ∧ s.reg .f &&& 0x0F = 0 ∧
    (∀ r, r ≠ .f → (s.setReg .f v).reg r = s.reg r) ∧
    FlagsAre (s.setFlags z n h c) z n h c ∧
    (let keep := s.flag
     let OneBit := fun (k : Nat) (b : Bool) (t : State) =>
       ∀ i, i < 8 → (t.reg .f).getLsbD i = if i = k then b else (s.reg .f).getLsbD i
     OneBit 7 z (s.setFlags z (keep .n) (keep .h) (keep .c)) ∧ OneBit 6 n (s.setFlags (keep .z) n (keep .h) (keep .c)) ∧
     OneBit 5 h (s.setFlags (keep .z) (keep .n) h (keep .c)) ∧ OneBit 4 c (s.setFlags (keep .z) (keep .n) (keep .h) c))

/-- A pair is a view of two registers, the first its high byte, and writing it writes both halves and nothing else; AF's low
nibble is lost (R15). -/
def Obligations.PairsAreViewsOfTwoRegisters : Prop :=
  ∀ (s : State) (hi lo : Reg8) (v : Word), (hi, lo) ∈ [(Reg8.a, Reg8.f), (.b, .c), (.d, .e), (.h, .l)] →
    (s.pair hi lo).toNat = (s.reg hi).toNat * 256 + (s.reg lo).toNat ∧
    (s.setPair hi lo v).pair hi lo = (if lo = .f then v &&& 0xFFF0 else v) ∧
    (s.setPair hi lo v).reg hi = v.hiByte ∧
    (lo ≠ .f → (s.setPair hi lo v).reg lo = v.loByte) ∧
    Quiet [hi, lo] [] s (s.setPair hi lo v) ∧ (s.setPair hi lo v).mem = s.mem

/-- The four index tables and the condition table, entry by entry (R55 to R59). The tables of R58 and R59 are the spec's
decision D1. -/
def Obligations.OperandTablesSelectAsListed : Prop :=
  (∀ s : State, (List.ofFn fun k : Fin 8 => s.readR8 (.ofField (BitVec.ofFin k))) =
    [s.reg .b, s.reg .c, s.reg .d, s.reg .e, s.reg .h, s.reg .l, s.memRead (s.pair .h .l), s.reg .a]) ∧
  (∀ (s : State) (v : Byte), (List.ofFn fun k : Fin 8 => s.writeR8 (.ofField (BitVec.ofFin k)) v) =
    [s.setReg .b v, s.setReg .c v, s.setReg .d v, s.setReg .e v, s.setReg .h v, s.setReg .l v,
     s.memWrite (s.pair .h .l) v, s.setReg .a v]) ∧
  (∀ s : State, (List.ofFn fun k : Fin 4 => s.readR16 (.ofField (BitVec.ofFin k))) =
    [s.pair .b .c, s.pair .d .e, s.pair .h .l, s.sp]) ∧
  (∀ (s : State) (v : Word), (List.ofFn fun k : Fin 4 => s.writeR16 (.ofField (BitVec.ofFin k)) v) =
    [s.setPair .b .c v, s.setPair .d .e v, s.setPair .h .l v, s.setSP v]) ∧
  (∀ s : State, (List.ofFn fun k : Fin 4 => s.readR16stk (.ofField (BitVec.ofFin k))) =
    [s.pair .b .c, s.pair .d .e, s.pair .h .l, s.pair .a .f]) ∧
  (∀ (s : State) (v : Word), (List.ofFn fun k : Fin 4 => s.writeR16stk (.ofField (BitVec.ofFin k)) v) =
    [s.setPair .b .c v, s.setPair .d .e v, s.setPair .h .l v, s.setPair .a .f (v &&& 0xFFF0)]) ∧
  (∀ s : State, (List.ofFn fun k : Fin 4 => s.cond (.ofField (BitVec.ofFin k))) =
    [!(s.reg .f).getLsbD 7, (s.reg .f).getLsbD 7, !(s.reg .f).getLsbD 4, (s.reg .f).getLsbD 4]) ∧
  (∀ s : State, (List.ofFn fun k : Fin 4 => s.memAddr (.ofField (BitVec.ofFin k))) =
    [s.pair .b .c, s.pair .d .e, s.pair .h .l, s.pair .h .l]) ∧
  (∀ s : State, (List.ofFn fun k : Fin 4 => s.postAdjust (.ofField (BitVec.ofFin k))) =
    [s, s, s.setPair .h .l (s.pair .h .l + 1), s.setPair .h .l (s.pair .h .l - 1)])

/-! ### Launch -/

/-- The state in which every accepted launch begins: each piece of state at its reset value, the ROM snapshot the image's
first 0x8000 bytes with `ROM_PAD` behind them, every writable byte `INIT_MEM(a)`, and the holes reading 0x00 (R36, R40). The
values are the spec's decisions D19, D20 and D22 to D25; the host's records that R36 does not name are empty by the model's
choice (notes/assumptions/7.md and 8.md). -/
def Obligations.LaunchBeginsInResetState : Prop :=
  ∀ (cfg : LaunchConfig) (image : List Byte), refusalOf cfg.logo (some image) = none →
    ∃ t, launch cfg (some image) = .ok t ∧
      t.regs = { a := 0x01, f := 0xB0, b := 0x00, c := 0x13, d := 0x00, e := 0xD8, h := 0x01, l := 0x4D } ∧
      t.sp = 0xFFFE ∧ t.pc = 0x0100 ∧ t.ime = false ∧ t.eiCount = 0 ∧ t.halted = false ∧ t.stopped = false ∧
      t.fault = none ∧ t.counter = 0 ∧ t.lastTick = 0 ∧ t.console.wordBuffer = [] ∧ t.console.endRequested = none ∧
      t.console.echoed = [] ∧ t.console.trace = [] ∧ t.console.warnings = [] ∧ t.console.stepsRun = 0 ∧
      t.params = cfg.params ∧
      (∀ a : Word, a.toNat < 0x8000 →
        t.memRead a = if a.toNat < image.length then image.getD a.toNat 0 else cfg.romPad a.toNat) ∧
      (∀ a : Word, writable a = true → t.memRead a = cfg.initMem a.toNat) ∧
      (∀ a : Word, (0xE000 ≤ a.toNat ∧ a.toNat ≤ 0xFDFF) ∨ (0xFEA0 ≤ a.toNat ∧ a.toNat ≤ 0xFEFF) → t.memRead a = 0x00)

/-- Image acceptance: the four checks in their order, the first that fails names the refusal, and nothing else of the image
matters (R169, with the logo constant of R170 and the checksum of R171). The length rule, the logo's bytes and that nothing
else is checked are the spec's decisions D25, D26 and D41. -/
def Obligations.ImageAcceptanceChecksInOrder : Prop :=
  (∀ cfg : LaunchConfig, launch cfg none = .error .unreadable) ∧
  (∀ (cfg : LaunchConfig) (image : List Byte),
    let logoOk := ∀ k : Nat, k < 48 → image.getD (0x0104 + k) 0 = cfg.logo.getD k 0
    let sum : Byte := (List.range 25).foldl (fun x k => x - image.getD (0x0134 + k) 0 - 1) 0
    cfg.logo.length = 48 →
    (launch cfg (some image) = .error .tooShort ↔ image.length < 0x0150) ∧
    (launch cfg (some image) = .error .logoMismatch ↔ 0x0150 ≤ image.length ∧ ¬ logoOk) ∧
    (launch cfg (some image) = .error .checksumMismatch ↔
      0x0150 ≤ image.length ∧ logoOk ∧ sum ≠ image.getD 0x014D 0) ∧
    ((∃ t, launch cfg (some image) = .ok t) ↔ 0x0150 ≤ image.length ∧ logoOk ∧ sum = image.getD 0x014D 0)) ∧
  LaunchConfig.default.logo =
    [0xCE, 0xED, 0x66, 0x66, 0xCC, 0x0D, 0x00, 0x0B, 0x03, 0x73, 0x00, 0x83, 0x00, 0x0C, 0x00, 0x0D,
     0x00, 0x08, 0x11, 0x1F, 0x88, 0x89, 0x00, 0x0E, 0xDC, 0xCC, 0x6E, 0xE6, 0xDD, 0xDD, 0xD9, 0x99,
     0xBB, 0xBB, 0x67, 0x63, 0x6E, 0x0E, 0xEC, 0xCC, 0xDD, 0xDC, 0x99, 0x9F, 0xBB, 0xB9, 0x33, 0x3E]

/-! ### The bus -/

/-- A bus read routes by the address map: the stored byte in ROM and cells, 0x00 and one warning in the two holes; it
changes nothing else (R40). What the holes read as is the spec's decision D19 and D20. -/
def Obligations.BusReadRoutesByAddress : Prop :=
  ∀ (s : State) (a : Word),
    (a.toNat ≤ 0xDFFF ∨ (0xFE00 ≤ a.toNat ∧ a.toNat ≤ 0xFE9F) ∨ 0xFF00 ≤ a.toNat →
      s.memRead a = s.cell a ∧ s.noteRead a = s) ∧
    (0xE000 ≤ a.toNat ∧ a.toNat ≤ 0xFDFF → s.memRead a = 0x00 ∧ s.noteRead a = s.warn .unmapped a) ∧
    (0xFEA0 ≤ a.toNat ∧ a.toNat ≤ 0xFEFF → s.memRead a = 0x00 ∧ s.noteRead a = s.warn .prohibited a)

/-- A bus write routes by the address map: ROM and the two holes reject it with one warning and nothing else; a cell stores
it, and a write of 0x81 to 0xFF02, and no other, is a serial event with the byte in 0xFF01 (R41). The holes and the serial
event are the spec's decisions D19 and D27. -/
def Obligations.BusWriteRoutesByAddress : Prop :=
  ∀ (s : State) (a : Word) (v : Byte), Memory.wf s.mem = true →
    (a.toNat ≤ 0x7FFF → s.memWrite a v = s.warn .romWrite a) ∧
    (0xE000 ≤ a.toNat ∧ a.toNat ≤ 0xFDFF → s.memWrite a v = s.warn .unmapped a) ∧
    (0xFEA0 ≤ a.toNat ∧ a.toNat ≤ 0xFEFF → s.memWrite a v = s.warn .prohibited a) ∧
    ((0x8000 ≤ a.toNat ∧ a.toNat ≤ 0xDFFF) ∨ (0xFE00 ≤ a.toNat ∧ a.toNat ≤ 0xFE9F) ∨ 0xFF00 ≤ a.toNat →
      (s.memWrite a v).memRead a = v ∧ (∀ x, x ≠ a → (s.memWrite a v).memRead x = s.memRead x) ∧
      (s.memWrite a v).regs = s.regs ∧ (s.memWrite a v).sp = s.sp ∧ (s.memWrite a v).pc = s.pc ∧
      ControlEq s (s.memWrite a v) ∧ Memory.wf (s.memWrite a v).mem = true ∧
      (s.memWrite a v).console =
        if a.toNat = 0xFF02 ∧ v = 0x81 then s.console.serial (s.memRead 0xFF01) else s.console)

/-- The word buffer: a space or newline clears it, any other byte is appended, and the buffer becoming exactly "Passed" or
"Failed" asks for the end of the run; every byte is echoed (R175). The buffer's rules are the spec's decision D28; that the step
behind answers the end is the model's reading (notes/assumptions/6.md). -/
def Obligations.SerialBytesBuildTheWord : Prop :=
  (∀ s : State, s.fault = none →
    (s.console.endRequested = some .passed → step s = .fault .passed) ∧
    (s.console.endRequested = some .failed → step s = .fault .failed)) ∧
  ∀ (k : Console) (b : Byte),
    (k.serial b).echoed = k.echoed ++ [b] ∧ (k.serial b).trace = k.trace ∧ (k.serial b).warnings = k.warnings ∧
    (b = 0x20 ∨ b = 0x0A → (k.serial b).wordBuffer = [] ∧ (k.serial b).endRequested = k.endRequested) ∧
    (b ≠ 0x20 ∧ b ≠ 0x0A →
      (k.serial b).wordBuffer = k.wordBuffer ++ [b] ∧
      (k.wordBuffer ++ [b] = [0x50, 0x61, 0x73, 0x73, 0x65, 0x64] → (k.serial b).endRequested = some .passed) ∧
      (k.wordBuffer ++ [b] = [0x46, 0x61, 0x69, 0x6C, 0x65, 0x64] → (k.serial b).endRequested = some .failed) ∧
      (k.wordBuffer ++ [b] ∉ [EndWord.passed.bytes, EndWord.failed.bytes] →
        (k.serial b).endRequested = k.endRequested))

/-- `PUSH r16stk` followed by `POP r16stk'` moves the exact value and restores SP, where both stack bytes are writable; popped
into AF, its low nibble is 0 (95_test_vectors.md S3, from R47, R48, R87, R88). -/
def Obligations.PushThenPopMovesTheValue : Prop :=
  ∀ (p q : R16stk) (s : State), Memory.wf s.mem = true → writable (s.sp - 1) = true → writable (s.sp - 2) = true →
    ∃ t u, exec (Instr.pushOf p) s = .next t ∧ exec (Instr.popOf q) t = .next u ∧
      u.readR16stk q = (if q = .af then s.readR16stk p &&& 0xFFF0 else s.readR16stk p) ∧ u.sp = s.sp ∧
      (∀ r : R16stk, r ≠ q → u.readR16stk r = s.readR16stk r)

/-! ### Loads, stores and the stack -/

/-- `LD r8,r8'` (R72). Constructors: the 63 from ld_B_B (0x40) to ld_A_A (0x7F) of `Instr.ldOf`, all but halt (0x76). -/
def Obligations.LdR8R8CopiesTheOperand : Prop :=
  (∀ y z : BitVec 3, ¬(y = 6 ∧ z = 6) →
    Encodes (1#2 ++ y ++ z) 1 fun _ _ => Instr.ldOf (.ofField y) (.ofField z)) ∧
  ∀ (dst src : R8) (s : State), ¬(dst = .atHL ∧ src = .atHL) → Memory.wf s.mem = true →
    ∃ t, exec (Instr.ldOf dst src) s = .next t ∧ WritesR8 dst (s.readR8 src) [] (r8Warnings s src) s t

/-- `LD r8,n8` (R73). Constructors: ld_B_n8, ld_C_n8, ld_D_n8, ld_E_n8, ld_H_n8, ld_L_n8, ld_atHL_n8, ld_A_n8. -/
def Obligations.LdR8ImmediateWritesTheByte : Prop :=
  (∀ y : BitVec 3, Encodes (0#2 ++ y ++ 6#3) 2 fun n _ => Instr.ldImmOf (.ofField y) n) ∧
  ∀ (dst : R8) (n : Byte) (s : State), Memory.wf s.mem = true →
    ∃ t, exec (Instr.ldImmOf dst n) s = .next t ∧ WritesR8 dst n [] [] s t

/-- `LD r16,n16` (R74). Constructors: ld_BC_n16, ld_DE_n16, ld_HL_n16, ld_SP_n16. -/
def Obligations.LdR16ImmediateWritesThePair : Prop :=
  (∀ p : BitVec 2, Encodes (0#2 ++ p ++ 1#4) 3 fun n hi => Instr.ldR16Of (.ofField p) (Word.ofBytes hi n)) ∧
  ∀ (p : R16) (v : Word) (s : State),
    ∃ t, exec (Instr.ldR16Of p v) s = .next t ∧ WritesR16 p v [] s t

/-- Stores of A through BC or DE, no register changed (R75). Constructors: ld_atBC_A, ld_atDE_A. -/
def Obligations.StoreAThroughBCOrDE : Prop :=
  Encodes 0x02 1 (fun _ _ => .ld_atBC_A) ∧ Encodes 0x12 1 (fun _ _ => .ld_atDE_A) ∧
  ∀ s : State, Memory.wf s.mem = true →
    (∃ t, exec .ld_atBC_A s = .next t ∧ Stores [] (s.pair .b .c) (s.reg .a) [] s t) ∧
    (∃ t, exec .ld_atDE_A s = .next t ∧ Stores [] (s.pair .d .e) (s.reg .a) [] s t)

/-- Loads of A through a pair, HL adjusted after the load by the last two (R77, R78). Constructors: ld_A_atBC, ld_A_atDE,
ld_A_atHLi, ld_A_atHLd. -/
def Obligations.LoadAThroughPair : Prop :=
  Encodes 0x0A 1 (fun _ _ => .ld_A_atBC) ∧ Encodes 0x1A 1 (fun _ _ => .ld_A_atDE) ∧
  Encodes 0x2A 1 (fun _ _ => .ld_A_atHLi) ∧ Encodes 0x3A 1 (fun _ _ => .ld_A_atHLd) ∧
  ∀ s : State,
    (∃ t, exec .ld_A_atBC s = .next t ∧ Quiet [.a] (readWarnings (s.pair .b .c)) s t ∧
      t.reg .a = s.memRead (s.pair .b .c)) ∧
    (∃ t, exec .ld_A_atDE s = .next t ∧ Quiet [.a] (readWarnings (s.pair .d .e)) s t ∧
      t.reg .a = s.memRead (s.pair .d .e)) ∧
    (∃ t, exec .ld_A_atHLi s = .next t ∧ Quiet [.a, .h, .l] (readWarnings (s.pair .h .l)) s t ∧
      t.reg .a = s.memRead (s.pair .h .l) ∧ t.pair .h .l = s.pair .h .l + 1) ∧
    (∃ t, exec .ld_A_atHLd s = .next t ∧ Quiet [.a, .h, .l] (readWarnings (s.pair .h .l)) s t ∧
      t.reg .a = s.memRead (s.pair .h .l) ∧ t.pair .h .l = s.pair .h .l - 1)

/-- Stores of A through HL, which is one higher or lower after the store, whatever was stored and wherever (R76), and at an
absolute or high-page address (R79, R81, R83). That HL wraps is the spec's decision D32, 0xEA is D34, the high page D1.
Constructors: ld_atHLi_A, ld_atHLd_A, ld_atN16_A, ldh_atA8_A, ldh_atC_A. -/
def Obligations.StoreAAtAddress : Prop :=
  Encodes 0x22 1 (fun _ _ => .ld_atHLi_A) ∧ Encodes 0x32 1 (fun _ _ => .ld_atHLd_A) ∧
  Encodes 0xEA 3 (fun n hi => .ld_atN16_A (Word.ofBytes hi n)) ∧ Encodes 0xE0 2 (fun n _ => .ldh_atA8_A n) ∧
  Encodes 0xE2 1 (fun _ _ => .ldh_atC_A) ∧
  ∀ s : State, Memory.wf s.mem = true →
    (∃ t, exec .ld_atHLi_A s = .next t ∧ Stores [.h, .l] (s.pair .h .l) (s.reg .a) [] s t ∧
      t.pair .h .l = s.pair .h .l + 1) ∧
    (∃ t, exec .ld_atHLd_A s = .next t ∧ Stores [.h, .l] (s.pair .h .l) (s.reg .a) [] s t ∧
      t.pair .h .l = s.pair .h .l - 1) ∧
    (∀ a : Word, ∃ t, exec (.ld_atN16_A a) s = .next t ∧ Stores [] a (s.reg .a) [] s t) ∧
    (∀ n : Byte, ∃ t, exec (.ldh_atA8_A n) s = .next t ∧
      Stores [] (BitVec.ofNat 16 (0xFF00 + n.toNat)) (s.reg .a) [] s t) ∧
    (∃ t, exec .ldh_atC_A s = .next t ∧ Stores [] (BitVec.ofNat 16 (0xFF00 + (s.reg .c).toNat)) (s.reg .a) [] s t)

/-- Loads of A from an absolute or high-page address (R80, R82, R84). 0xFA is the spec's decision D34, the high page D1.
Constructors: ld_A_atN16, ldh_A_atA8, ldh_A_atC. -/
def Obligations.LoadAFromAddress : Prop :=
  Encodes 0xFA 3 (fun n hi => .ld_A_atN16 (Word.ofBytes hi n)) ∧ Encodes 0xF0 2 (fun n _ => .ldh_A_atA8 n) ∧
  Encodes 0xF2 1 (fun _ _ => .ldh_A_atC) ∧
  ∀ s : State,
    (∀ a : Word, ∃ t, exec (.ld_A_atN16 a) s = .next t ∧ t.reg .a = s.memRead a ∧ Quiet [.a] (readWarnings a) s t) ∧
    (∀ n : Byte, ∃ t, exec (.ldh_A_atA8 n) s = .next t ∧ t.reg .a = s.memRead (BitVec.ofNat 16 (0xFF00 + n.toNat)) ∧
      Quiet [.a] [] s t) ∧
    (∃ t, exec .ldh_A_atC s = .next t ∧ t.reg .a = s.memRead (BitVec.ofNat 16 (0xFF00 + (s.reg .c).toNat)) ∧
      Quiet [.a] [] s t)

/-- `LD [n16],SP` stores SP's low byte at n16, then its high byte at n16 + 1, each where it is writable (R85); `LD SP,HL`
(R86). The byte order of the store is the spec's decision D1. Constructors: ld_atN16_SP, ld_SP_HL. -/
def Obligations.StoreSPAndLoadSP : Prop :=
  Encodes 0x08 3 (fun n hi => .ld_atN16_SP (Word.ofBytes hi n)) ∧ Encodes 0xF9 1 (fun _ _ => .ld_SP_HL) ∧
  (∀ (a : Word) (s : State), Memory.wf s.mem = true →
    ∃ t, exec (.ld_atN16_SP a) s = .next t ∧ RegsEqBut [] s t ∧ t.sp = s.sp ∧ t.pc = s.pc ∧ ControlEq s t ∧
      (∀ x, t.memRead x =
        if x = a ∧ writable a = true then s.sp.loByte
        else if x = a + 1 ∧ writable (a + 1) = true then s.sp.hiByte
        else s.memRead x) ∧
      t.console = (((s.console.warned (writeWarnings a)).stored a s.sp.loByte (s.memRead addrSB)).warned
        (writeWarnings (a + 1))).stored (a + 1) s.sp.hiByte (if a = addrSB then s.sp.loByte else s.memRead addrSB)) ∧
  (∀ s : State, ∃ t, exec .ld_SP_HL s = .next t ∧ t.sp = s.pair .h .l ∧ RegsEqBut [] s t ∧ t.pc = s.pc ∧ ControlEq s t ∧
    MemEq s t ∧ t.console = s.console)

/-- `PUSH r16stk`: SP two lower, the high register at SP - 1 and the low register at SP - 2, each where it is writable
(R87). Constructors: push_BC, push_DE, push_HL, push_AF. -/
def Obligations.PushStoresThePair : Prop :=
  (∀ p : BitVec 2, Encodes (3#2 ++ p ++ 5#4) 1 fun _ _ => Instr.pushOf (.ofField p)) ∧
  ∀ (p : R16stk) (s : State), Memory.wf s.mem = true →
    ∃ t, exec (Instr.pushOf p) s = .next t ∧ Pushes (s.readR16stk p) s t ∧ t.pc = s.pc ∧ ControlEq s t

/-- `POP r16stk`: the low register from SP, the high register from SP + 1, SP two higher; `POP AF` writes all of F, its low
nibble 0 (R88). Constructors: pop_BC, pop_DE, pop_HL, pop_AF. -/
def Obligations.PopLoadsThePair : Prop :=
  (∀ p : BitVec 2, Encodes (3#2 ++ p ++ 1#4) 1 fun _ _ => Instr.popOf (.ofField p)) ∧
  ∀ s : State,
    (∃ t, exec .pop_BC s = .next t ∧ t.reg .b = s.memRead (s.sp + 1) ∧ t.reg .c = s.memRead s.sp ∧
      Pops [.b, .c] s t ∧ t.pc = s.pc ∧ ControlEq s t) ∧
    (∃ t, exec .pop_DE s = .next t ∧ t.reg .d = s.memRead (s.sp + 1) ∧ t.reg .e = s.memRead s.sp ∧
      Pops [.d, .e] s t ∧ t.pc = s.pc ∧ ControlEq s t) ∧
    (∃ t, exec .pop_HL s = .next t ∧ t.reg .h = s.memRead (s.sp + 1) ∧ t.reg .l = s.memRead s.sp ∧
      Pops [.h, .l] s t ∧ t.pc = s.pc ∧ ControlEq s t) ∧
    (∃ t, exec .pop_AF s = .next t ∧ t.reg .a = s.memRead (s.sp + 1) ∧ t.reg .f = s.memRead s.sp &&& 0xF0 ∧
      Pops [.a, .f] s t ∧ t.pc = s.pc ∧ ControlEq s t)

/-! ### 8-bit arithmetic and logic -/

/-- The encodings of an accumulator operation in its two forms (R66, R67, R90). -/
def EncodesAlu (op : AluOp) (y : BitVec 3) : Prop :=
  (∀ z : BitVec 3, Encodes (2#2 ++ y ++ z) 1 fun _ _ => Instr.aluOf op (.ofField z)) ∧
  Encodes (3#2 ++ y ++ 6#3) 2 fun n _ => Instr.aluImmOf op n

/-- `ADD A,v` and `ADC A,v` (R91, R92). Constructors: add_A_B to add_A_A, adc_A_B to adc_A_A (the rows add and adc of
`Instr.aluOf`), add_A_n8, adc_A_n8. -/
def Obligations.AddAndAdcAddIntoA : Prop :=
  EncodesAlu .add 0 ∧ EncodesAlu .adc 1 ∧
  ∀ s : State,
    let Adds := fun (v : Byte) (c : Nat) (ws : List Warning) (t : State) =>
      (t.reg .a).toNat = ((s.reg .a).toNat + v.toNat + c) % 256 ∧ AddFlags (s.reg .a) v c t ∧ Quiet [.a, .f] ws s t
    (∀ r : R8, ∃ t, exec (Instr.aluOf .add r) s = .next t ∧ Adds (s.readR8 r) 0 (r8Warnings s r) t) ∧
    (∀ n : Byte, ∃ t, exec (.add_A_n8 n) s = .next t ∧ Adds n 0 [] t) ∧
    (∀ r : R8, ∃ t, exec (Instr.aluOf .adc r) s = .next t ∧ Adds (s.readR8 r) (s.flag .c).toNat (r8Warnings s r) t) ∧
    (∀ n : Byte, ∃ t, exec (.adc_A_n8 n) s = .next t ∧ Adds n (s.flag .c).toNat [] t)

/-- `SUB A,v` and `SBC A,v` (R93, R94). Constructors: sub_A_B to sub_A_A, sbc_A_B to sbc_A_A (the rows sub and sbc of
`Instr.aluOf`), sub_A_n8, sbc_A_n8. -/
def Obligations.SubAndSbcSubtractFromA : Prop :=
  EncodesAlu .sub 2 ∧ EncodesAlu .sbc 3 ∧
  ∀ s : State,
    let Subs := fun (v : Byte) (c : Nat) (ws : List Warning) (t : State) =>
      ((t.reg .a).toNat : Int) = ((s.reg .a).toNat - v.toNat - c) % 256 ∧ SubFlags (s.reg .a) v c t ∧
      Quiet [.a, .f] ws s t
    (∀ r : R8, ∃ t, exec (Instr.aluOf .sub r) s = .next t ∧ Subs (s.readR8 r) 0 (r8Warnings s r) t) ∧
    (∀ n : Byte, ∃ t, exec (.sub_A_n8 n) s = .next t ∧ Subs n 0 [] t) ∧
    (∀ r : R8, ∃ t, exec (Instr.aluOf .sbc r) s = .next t ∧ Subs (s.readR8 r) (s.flag .c).toNat (r8Warnings s r) t) ∧
    (∀ n : Byte, ∃ t, exec (.sbc_A_n8 n) s = .next t ∧ Subs n (s.flag .c).toNat [] t)

/-- `AND A,v`, `XOR A,v`, `OR A,v` (R95, R96, R97). Constructors: and_A_B to and_A_A, xor_A_B to xor_A_A, or_A_B to or_A_A
(the rows and, xor, or of `Instr.aluOf`), and_A_n8, xor_A_n8, or_A_n8. -/
def Obligations.LogicOperationsCombineIntoA : Prop :=
  EncodesAlu .and 4 ∧ EncodesAlu .xor 5 ∧ EncodesAlu .or 6 ∧
  ∀ s : State,
    let Gives := fun (x : Byte) (h : Bool) (ws : List Warning) (t : State) =>
      t.reg .a = x ∧ FlagsAre t (x == 0) false h false ∧ Quiet [.a, .f] ws s t
    (∀ r : R8, ∃ t, exec (Instr.aluOf .and r) s = .next t ∧ Gives (s.reg .a &&& s.readR8 r) true (r8Warnings s r) t) ∧
    (∀ n : Byte, ∃ t, exec (.and_A_n8 n) s = .next t ∧ Gives (s.reg .a &&& n) true [] t) ∧
    (∀ r : R8, ∃ t, exec (Instr.aluOf .xor r) s = .next t ∧ Gives (s.reg .a ^^^ s.readR8 r) false (r8Warnings s r) t) ∧
    (∀ n : Byte, ∃ t, exec (.xor_A_n8 n) s = .next t ∧ Gives (s.reg .a ^^^ n) false [] t) ∧
    (∀ r : R8, ∃ t, exec (Instr.aluOf .or r) s = .next t ∧ Gives (s.reg .a ||| s.readR8 r) false (r8Warnings s r) t) ∧
    (∀ n : Byte, ∃ t, exec (.or_A_n8 n) s = .next t ∧ Gives (s.reg .a ||| n) false [] t)

/-- `CP A,v`: the flags of `SUB A,v`, A unchanged; and the flags are exactly those SUB leaves (R98). Constructors: cp_A_B to
cp_A_A (the row cp of `Instr.aluOf`), cp_A_n8. -/
def Obligations.CpSetsTheFlagsOfSub : Prop :=
  EncodesAlu .cp 7 ∧
  ∀ s : State,
    (∀ r : R8, ∃ t, exec (Instr.aluOf .cp r) s = .next t ∧ SubFlags (s.reg .a) (s.readR8 r) 0 t ∧
      Quiet [.f] (r8Warnings s r) s t) ∧
    (∀ n : Byte, ∃ t, exec (.cp_A_n8 n) s = .next t ∧ SubFlags (s.reg .a) n 0 t ∧ Quiet [.f] [] s t) ∧
    (∀ r : R8, ∃ t u, exec (Instr.aluOf .cp r) s = .next t ∧ exec (Instr.aluOf .sub r) s = .next u ∧
      t.reg .f = u.reg .f) ∧
    (∀ n : Byte, ∃ t u, exec (.cp_A_n8 n) s = .next t ∧ exec (.sub_A_n8 n) s = .next u ∧ t.reg .f = u.reg .f)

/-- `INC r8` and `DEC r8`, of a register or of [HL]: Z, N, H from the result, C kept (R99, R100). The flags are the spec's
decision D1. Constructors: inc_B, inc_C, inc_D, inc_E, inc_H, inc_L, inc_atHL, inc_A, dec_B, dec_C, dec_D, dec_E, dec_H,
dec_L, dec_atHL, dec_A. -/
def Obligations.IncAndDecR8KeepCarry : Prop :=
  (∀ y : BitVec 3, Encodes (0#2 ++ y ++ 4#3) 1 fun _ _ => Instr.incR8Of (.ofField y)) ∧
  (∀ y : BitVec 3, Encodes (0#2 ++ y ++ 5#3) 1 fun _ _ => Instr.decR8Of (.ofField y)) ∧
  ∀ (r : R8) (s : State), Memory.wf s.mem = true →
    (∃ t x, exec (Instr.incR8Of r) s = .next t ∧ x.toNat = ((s.readR8 r).toNat + 1) % 256 ∧
      WritesR8 r x [.f] (r8Warnings s r) s t ∧
      FlagsAre t (x == 0) false (decide ((s.readR8 r).toNat % 16 = 0xF)) (s.flag .c)) ∧
    (∃ t x, exec (Instr.decR8Of r) s = .next t ∧ x.toNat = ((s.readR8 r).toNat + 255) % 256 ∧
      WritesR8 r x [.f] (r8Warnings s r) s t ∧
      FlagsAre t (x == 0) true (decide ((s.readR8 r).toNat % 16 = 0)) (s.flag .c))

/-- `DAA`: the two corrections decided on A and F before the instruction (R101). The conditions are the spec's decision
D43. Constructor: daa. -/
def Obligations.DaaAppliesBothCorrections : Prop :=
  Encodes 0x27 1 (fun _ _ => .daa) ∧
  ∀ s : State,
    let a := (s.reg .a).toNat
    let low : Bool := s.flag .h || (!s.flag .n && decide (a % 16 > 0x9))
    let high : Bool := s.flag .c || (!s.flag .n && decide (a > 0x99))
    let corr := (if low then 0x06 else 0) + (if high then 0x60 else 0)
    ∃ t, exec .daa s = .next t ∧
      ((t.reg .a).toNat : Int) = (if s.flag .n then (a : Int) - corr else a + corr) % 256 ∧
      FlagsAre t (t.reg .a == 0) (s.flag .n) false high ∧ Quiet [.a, .f] [] s t

/-- DAA after a BCD addition or subtraction of BCD operands gives the BCD result and the right C (95_test_vectors.md S2,
from R91, R93, R101). It rests on the spec's decision D43. -/
def Obligations.DaaCorrectsBcdArithmetic : Prop :=
  ∀ (x y : Nat) (s : State), x < 100 → y < 100 →
    let bcd := fun k : Nat => BitVec.ofNat 8 (k / 10 * 16 + k % 10)
    s.reg .a = bcd x →
    (∃ t u, exec (.add_A_n8 (bcd y)) s = .next t ∧ exec .daa t = .next u ∧
      u.reg .a = bcd ((x + y) % 100) ∧ (u.flag .c = true ↔ x + y ≥ 100)) ∧
    (∃ t u, exec (.sub_A_n8 (bcd y)) s = .next t ∧ exec .daa t = .next u ∧
      u.reg .a = bcd ((x + 100 - y) % 100) ∧ (u.flag .c = true ↔ x < y))

/-- `CPL`, `SCF`, `CCF` (R102, R103, R104). The flags are the spec's decision D1. Constructors: cpl, scf, ccf. -/
def Obligations.CplScfCcfSetTheirFlags : Prop :=
  Encodes 0x2F 1 (fun _ _ => .cpl) ∧ Encodes 0x37 1 (fun _ _ => .scf) ∧ Encodes 0x3F 1 (fun _ _ => .ccf) ∧
  ∀ s : State,
    (∃ t, exec .cpl s = .next t ∧ t.reg .a = ~~~ s.reg .a ∧ FlagsAre t (s.flag .z) true true (s.flag .c) ∧
      Quiet [.a, .f] [] s t) ∧
    (∃ t, exec .scf s = .next t ∧ FlagsAre t (s.flag .z) false false true ∧ Quiet [.f] [] s t) ∧
    (∃ t, exec .ccf s = .next t ∧ FlagsAre t (s.flag .z) false false (!s.flag .c) ∧ Quiet [.f] [] s t)

/-! ### 16-bit arithmetic -/

/-- `INC r16` and `DEC r16`: modulo 2^16, no flag (R105, R106). Constructors: inc_BC, inc_DE, inc_HL, inc_SP, dec_BC, dec_DE,
dec_HL, dec_SP. -/
def Obligations.IncAndDecR16WriteNoFlag : Prop :=
  (∀ p : BitVec 2, Encodes (0#2 ++ p ++ 3#4) 1 fun _ _ => Instr.incR16Of (.ofField p)) ∧
  (∀ p : BitVec 2, Encodes (0#2 ++ p ++ 11#4) 1 fun _ _ => Instr.decR16Of (.ofField p)) ∧
  ∀ (p : R16) (s : State),
    (∃ t x, exec (Instr.incR16Of p) s = .next t ∧ x.toNat = ((s.readR16 p).toNat + 1) % 65536 ∧ WritesR16 p x [] s t) ∧
    (∃ t x, exec (Instr.decR16Of p) s = .next t ∧ x.toNat = ((s.readR16 p).toNat + 65535) % 65536 ∧
      WritesR16 p x [] s t)

/-- `ADD HL,r16`: N cleared, H the carry out of bit 11, C the carry out of bit 15, Z kept (R107). Constructors: add_HL_BC,
add_HL_DE, add_HL_HL, add_HL_SP. -/
def Obligations.AddHLAddsThePair : Prop :=
  (∀ p : BitVec 2, Encodes (0#2 ++ p ++ 9#4) 1 fun _ _ => Instr.addHLOf (.ofField p)) ∧
  ∀ (p : R16) (s : State),
    let hl := (s.pair .h .l).toNat
    let v := (s.readR16 p).toNat
    ∃ t, exec (Instr.addHLOf p) s = .next t ∧ (t.pair .h .l).toNat = (hl + v) % 65536 ∧
      FlagsAre t (s.flag .z) false (decide (hl % 4096 + v % 4096 > 0xFFF)) (decide (hl + v > 0xFFFF)) ∧
      Quiet [.h, .l, .f] [] s t

/-- `ADD SP,e8` and `LD HL,SP+e8`: SP plus the signed offset; Z and N cleared, H and C from the unsigned addition of the
offset byte to SP's low byte (R108, R109). The flags are the spec's decision D1. Constructors: add_SP_e8, ld_HL_SPe8. -/
def Obligations.SPPlusOffset : Prop :=
  Encodes 0xE8 2 (fun n _ => .add_SP_e8 n) ∧ Encodes 0xF8 2 (fun n _ => .ld_HL_SPe8 n) ∧
  ∀ (e : Byte) (s : State),
    let flags := fun t : State => FlagsAre t false false (decide (s.sp.toNat % 16 + e.toNat % 16 > 0xF))
      (decide (s.sp.toNat % 256 + e.toNat > 0xFF))
    (∃ t, exec (.add_SP_e8 e) s = .next t ∧ (t.sp.toNat : Int) = (s.sp.toNat + signedValue e) % 65536 ∧ flags t ∧
      RegsEqBut [.f] s t ∧ t.pc = s.pc ∧ ControlEq s t ∧ MemEq s t ∧ t.console = s.console) ∧
    (∃ t, exec (.ld_HL_SPe8 e) s = .next t ∧ ((t.pair .h .l).toNat : Int) = (s.sp.toNat + signedValue e) % 65536 ∧
      flags t ∧ Quiet [.h, .l, .f] [] s t)

/-! ### Rotates, shifts and bit operations -/

/-- The accumulator rotates, bit by bit; C is the bit moved out and Z is 0 whatever the result (R110 to R113). Z = 0 is the
spec's decision D35. Constructors: rlca, rrca, rla, rra. -/
def Obligations.AccumulatorRotates : Prop :=
  Encodes 0x07 1 (fun _ _ => .rlca) ∧ Encodes 0x0F 1 (fun _ _ => .rrca) ∧ Encodes 0x17 1 (fun _ _ => .rla) ∧
  Encodes 0x1F 1 (fun _ _ => .rra) ∧
  ∀ s : State,
    let Rotates := fun (op : RotOp) (t : State) =>
      (∀ i, i < 8 → (t.reg .a).getLsbD i = rotBit op (s.reg .a) (s.flag .c) i) ∧
      FlagsAre t false false false (rotOut op (s.reg .a)) ∧ Quiet [.a, .f] [] s t
    (∃ t, exec .rlca s = .next t ∧ Rotates .rlc t) ∧ (∃ t, exec .rrca s = .next t ∧ Rotates .rrc t) ∧
    (∃ t, exec .rla s = .next t ∧ Rotates .rl t) ∧ (∃ t, exec .rra s = .next t ∧ Rotates .rr t)

/-- The prefixed rotates and shifts of a register or of [HL], bit by bit; Z from the result, C the bit moved out (0 for
SWAP) (R114 to R121). SWAP and the shifts are the spec's decision D1. Constructors: the 64 from rlc_B (CB 00) to srl_A (CB
3F) of `Instr.rotOf`. -/
def Obligations.PrefixedRotatesAndShifts : Prop :=
  (∀ y z : BitVec 3, EncodesPrefixed (0#2 ++ y ++ z) (Instr.rotOf (.ofField y) (.ofField z))) ∧
  ∀ (op : RotOp) (r : R8) (s : State), Memory.wf s.mem = true →
    ∃ t x, exec (Instr.rotOf op r) s = .next t ∧
      (∀ i, i < 8 → x.getLsbD i = rotBit op (s.readR8 r) (s.flag .c) i) ∧
      WritesR8 r x [.f] (r8Warnings s r) s t ∧ FlagsAre t (x == 0) false false (rotOut op (s.readR8 r))

/-- `BIT b,r8`: Z the complement of the bit, N cleared, H set, C kept, nothing written back (R122). The flags are the
spec's decision D1. Constructors: the 64 from bit_0_B (CB 40) to bit_7_A (CB 7F) of `Instr.bitOf`. -/
def Obligations.BitTestsOneBit : Prop :=
  (∀ y z : BitVec 3, EncodesPrefixed (1#2 ++ y ++ z) (Instr.bitOf y.toFin (.ofField z))) ∧
  ∀ (b : Fin 8) (r : R8) (s : State),
    ∃ t, exec (Instr.bitOf b r) s = .next t ∧ FlagsAre t (!(s.readR8 r).getLsbD b) false true (s.flag .c) ∧
      Quiet [.f] (r8Warnings s r) s t

/-- `RES b,r8` and `SET b,r8`: the one bit cleared or set, the operand written back, no flag (R123, R124). The effects are
the spec's decision D1. Constructors: the 128 from res_0_B (CB 80) to set_7_A (CB FF) of `Instr.resOf` and `Instr.setOf`. -/
def Obligations.ResAndSetChangeOneBit : Prop :=
  (∀ y z : BitVec 3, EncodesPrefixed (2#2 ++ y ++ z) (Instr.resOf y.toFin (.ofField z)) ∧
    EncodesPrefixed (3#2 ++ y ++ z) (Instr.setOf y.toFin (.ofField z))) ∧
  ∀ (b : Fin 8) (r : R8) (s : State), Memory.wf s.mem = true →
    (∃ t x, exec (Instr.resOf b r) s = .next t ∧
      (∀ i, i < 8 → x.getLsbD i = if i = b.val then false else (s.readR8 r).getLsbD i) ∧
      WritesR8 r x [] (r8Warnings s r) s t) ∧
    (∃ t x, exec (Instr.setOf b r) s = .next t ∧
      (∀ i, i < 8 → x.getLsbD i = if i = b.val then true else (s.readR8 r).getLsbD i) ∧
      WritesR8 r x [] (r8Warnings s r) s t)

/-! ### Control transfer -/

/-- `JP n16`, `JP HL` and `JR e8`: PC at the target, nothing else changed (R125, R127, R128). JP HL is the spec's decision
D34, the base of JR D1. Constructors: jp_n16, jp_HL, jr_e8. -/
def Obligations.JumpsSetPC : Prop :=
  Encodes 0xC3 3 (fun n hi => .jp_n16 (Word.ofBytes hi n)) ∧ Encodes 0xE9 1 (fun _ _ => .jp_HL) ∧
  Encodes 0x18 2 (fun n _ => .jr_e8 n) ∧
  ∀ s : State,
    (∀ a : Word, ∃ t, exec (.jp_n16 a) s = .next t ∧ JumpsTo a s t) ∧
    (∃ t, exec .jp_HL s = .next t ∧ JumpsTo (s.pair .h .l) s t) ∧
    (∀ e : Byte, ∃ t a, exec (.jr_e8 e) s = .next t ∧ (a.toNat : Int) = (s.pc.toNat + signedValue e) % 65536 ∧
      JumpsTo a s t)

/-- `JP cc,n16` and `JR cc,e8`: the jump where the condition holds, else nothing (R126, R129). The base of JR is the spec's
decision D1; bit 5 set in the bytes of `JR cc` is the model's reading of R62 and R64 (notes/assumptions/21.md). Constructors: jp_NZ_n16, jp_Z_n16, jp_NC_n16, jp_C_n16, jr_NZ_e8, jr_Z_e8, jr_NC_e8, jr_C_e8. -/
def Obligations.ConditionalJumpsTestTheFlag : Prop :=
  (∀ c : BitVec 2, Encodes (6#3 ++ c ++ 2#3) 3 fun n hi => Instr.jpCcOf (.ofField c) (Word.ofBytes hi n)) ∧
  (∀ c : BitVec 2, Encodes (1#3 ++ c ++ 0#3) 2 fun n _ => Instr.jrCcOf (.ofField c) n) ∧
  ∀ (cc : Cond) (s : State),
    (∀ a : Word, ∃ t, exec (Instr.jpCcOf cc a) s = .next t ∧ JumpsTo (if s.cond cc then a else s.pc) s t) ∧
    (∀ e : Byte, ∃ t a, exec (Instr.jrCcOf cc e) s = .next t ∧
      (a.toNat : Int) = (s.pc.toNat + (if s.cond cc then signedValue e else 0)) % 65536 ∧ JumpsTo a s t)

/-- `CALL n16` and `RST vec`: PC, behind the instruction, pushed, then PC at the target (R130, R135). The targets of RST
are the spec's decision D1. Constructors: call_n16, rst_00, rst_08, rst_10, rst_18, rst_20, rst_28, rst_30, rst_38. -/
def Obligations.CallAndRstPushTheReturnAddress : Prop :=
  Encodes 0xCD 3 (fun n hi => .call_n16 (Word.ofBytes hi n)) ∧
  (∀ t : BitVec 3, Encodes (3#2 ++ t ++ 7#3) 1 fun _ _ => Instr.rstOf t.toFin) ∧
  ∀ s : State, Memory.wf s.mem = true →
    (∀ a : Word, ∃ t, exec (.call_n16 a) s = .next t ∧ Pushes s.pc s t ∧ t.pc = a ∧ ControlEq s t) ∧
    (∀ k : Fin 8, ∃ t, exec (Instr.rstOf k) s = .next t ∧ Pushes s.pc s t ∧ t.pc.toNat = k.val * 8 ∧ ControlEq s t)

/-- `CALL cc,n16`: the call where the condition holds, else nothing (R131). Constructors: call_NZ_n16, call_Z_n16,
call_NC_n16, call_C_n16. -/
def Obligations.ConditionalCallTestsTheFlag : Prop :=
  (∀ c : BitVec 2, Encodes (6#3 ++ c ++ 4#3) 3 fun n hi => Instr.callCcOf (.ofField c) (Word.ofBytes hi n)) ∧
  ∀ (cc : Cond) (a : Word) (s : State), Memory.wf s.mem = true →
    ∃ t, exec (Instr.callCcOf cc a) s = .next t ∧
      (s.cond cc = true → Pushes s.pc s t ∧ t.pc = a ∧ ControlEq s t) ∧ (s.cond cc = false → t = s)

/-- `RET` and `RET cc`: PC popped, where the condition holds (R132, R133). Constructors: ret, ret_NZ, ret_Z, ret_NC, ret_C. -/
def Obligations.RetPopsPC : Prop :=
  Encodes 0xC9 1 (fun _ _ => .ret) ∧
  (∀ c : BitVec 2, Encodes (6#3 ++ c ++ 0#3) 1 fun _ _ => Instr.retCcOf (.ofField c)) ∧
  ∀ s : State,
    let Returns := fun t : State =>
      t.pc = Word.ofBytes (s.memRead (s.sp + 1)) (s.memRead s.sp) ∧ Pops [] s t ∧ ControlEq s t
    (∃ t, exec .ret s = .next t ∧ Returns t) ∧
    (∀ cc : Cond, ∃ t, exec (Instr.retCcOf cc) s = .next t ∧
      (s.cond cc = true → Returns t) ∧ (s.cond cc = false → t = s))

/-- `RETI`: PC popped, IME set at once, a pending EI cleared, nothing else changed (R134). The enabling is the spec's
decision D7. Constructor: reti. -/
def Obligations.RetiPopsPCAndEnables : Prop :=
  Encodes 0xD9 1 (fun _ _ => .reti) ∧
  ∀ s : State, ∃ t, exec .reti s = .next t ∧ t.pc = Word.ofBytes (s.memRead (s.sp + 1)) (s.memRead s.sp) ∧
    t.ime = true ∧ t.eiCount = 0 ∧ Pops [] s t ∧ ControlEq { s with ime := true, eiCount := 0 } t

/-! ### System instructions and the fault -/

/-- `NOP` changes nothing; `HALT` sets `halted`; `STOP` sets `stopped` with `STOP_MODE = HANG` and changes nothing else,
whatever its second byte (R137, R138, R139). HALT and STOP are the spec's decisions D10 and D12. Constructors: nop, halt,
stop. -/
def Obligations.NopHaltStop : Prop :=
  Encodes 0x00 1 (fun _ _ => .nop) ∧ Encodes 0x76 1 (fun _ _ => .halt) ∧ Encodes 0x10 2 (fun n _ => .stop n) ∧
  ∀ s : State,
    exec .nop s = .next s ∧ exec .halt s = .next { s with halted := true } ∧
    (∀ x : Byte, exec (.stop x) s = .next (if s.params.stopMode = .hang then { s with stopped := true } else s))

/-- `DI` clears IME and a pending EI; `EI` sets the pending request to `EI_DELAY` and leaves IME; at the start of each step
a nonzero request counts down, and IME becomes 1 when it reaches 0 (R140, R141, R152). The delay and the cancelling are the
spec's decisions D5 and D6. Constructors: di, ei. -/
def Obligations.DiEiAndThePromotion : Prop :=
  Encodes 0xF3 1 (fun _ _ => .di) ∧ Encodes 0xFB 1 (fun _ _ => .ei) ∧
  ∀ s : State,
    exec .di s = .next { s with ime := false, eiCount := 0 } ∧
    exec .ei s = .next { s with eiCount := if s.params.eiDelay = .one then 1 else 2 } ∧
    s.eiPromote =
      (if s.eiCount = 0 then s
       else { s with eiCount := s.eiCount - 1, ime := if s.eiCount = 1 then true else s.ime }) ∧
    (∀ t, exec .ei s = .next t → s.ime = false →
      (s.params.eiDelay = .one → t.ime = false ∧ t.eiPromote.ime = true ∧ t.eiPromote.eiCount = 0) ∧
      (s.params.eiDelay = .two → t.ime = false ∧ t.eiPromote.ime = false ∧ t.eiPromote.eiPromote.ime = true))

/-- An unrecognised opcode records the fault with the address it was fetched from and changes nothing else, and the core takes
no step behind it (R143, R145, R146). What the fault leaves is the spec's decision D31; that the faulting state is a next state
and that the step behind it answers the stop is the model's reading (notes/assumptions/5.md and 6.md).
Constructors: illegal_D3, illegal_DB, illegal_DD, illegal_E3, illegal_E4, illegal_EB, illegal_EC, illegal_ED, illegal_F4,
illegal_FC, illegal_FD. -/
def Obligations.IllegalOpcodesRecordTheFault : Prop :=
  (∀ (s : State) (f : IllegalOpcode), s.fault = some f → step s = .fault (.illegalOpcode f)) ∧
  ∀ s : State,
    let Faults := fun (op : Byte) (i : Instr) =>
      Encodes op 1 (fun _ _ => i) ∧ exec i s = .next { s with fault := some { addr := s.pc - 1, byte := op } }
    Faults 0xD3 .illegal_D3 ∧ Faults 0xDB .illegal_DB ∧ Faults 0xDD .illegal_DD ∧ Faults 0xE3 .illegal_E3 ∧
    Faults 0xE4 .illegal_E4 ∧ Faults 0xEB .illegal_EB ∧ Faults 0xEC .illegal_EC ∧ Faults 0xED .illegal_ED ∧
    Faults 0xF4 .illegal_F4 ∧ Faults 0xFC .illegal_FC ∧ Faults 0xFD .illegal_FD

/-! ### The step -/

/-- A step of a core that fetches executes the instruction whose bytes lie at PC: behind the EI promotion and the interrupt
check (`beginStep`) and the trace line (`traced`), with PC and the reads' warnings as the fetch of all its bytes leaves
them (`fetched`), and ends with the timer advance (R149). The order of a step is the spec's decisions D3 and D4; that
all the bytes are read before the effect is the model's reading of R53 (notes/assumptions/18.md). -/
def Obligations.StepRunsTheDecodedInstruction : Prop :=
  ∀ (s : State) (i : Instr) (rest : List Byte), s.endOfRun = none → s.countStep.beginStep.halted = false →
    decode (s.countStep.beginStep.readRange s.countStep.beginStep.pc 3) = .ok (i, rest) →
    step s = finishStep (exec i (s.countStep.beginStep.traced.fetched (encode i).length)) ∧
    (s.countStep.beginStep.traced.fetched (encode i).length).pc =
      s.countStep.beginStep.pc + BitVec.ofNat 16 (encode i).length ∧
    (s.countStep.beginStep.traced.fetched (encode i).length).regs = s.countStep.beginStep.regs ∧
    (s.countStep.beginStep.traced.fetched (encode i).length).sp = s.countStep.beginStep.sp ∧
    (s.countStep.beginStep.traced.fetched (encode i).length).mem = s.countStep.beginStep.mem ∧
    ControlEq s.countStep.beginStep (s.countStep.beginStep.traced.fetched (encode i).length)

/-- The step that meets an unrecognised opcode: PC behind the byte, the fault with the byte's address, everything else but
the host's records unchanged, no timer advance; and the core takes no further step (R145, R146). What the fault leaves is
the spec's decision D31; that the faulting state is a next state and that the step behind it answers the stop is the model's
reading (notes/assumptions/5.md and 6.md). -/
def Obligations.IllegalOpcodeStepFaultsPrecisely : Prop :=
  ∀ s : State, s.endOfRun = none → s.eiCount = 0 → s.ime = false → s.halted = false → s.memRead s.pc ∈ illegalBytes →
    ∃ t, step s = .next t ∧ t.fault = some { addr := s.pc, byte := s.memRead s.pc } ∧ t.pc = s.pc + 1 ∧
      t.regs = s.regs ∧ t.sp = s.sp ∧ t.mem = s.mem ∧ ControlEq { s with fault := t.fault } t ∧
      step t = .fault (.illegalOpcode { addr := s.pc, byte := s.memRead s.pc })

/-- A step of a halted core: without a deliverable request it only advances the timer; with one and IME = 0 it wakes and
goes on behind the HALT, the request still pending; with one and IME = 1 it wakes and the interrupt is taken (R153). The
waiting is the spec's decision D10, the mask 0x1F D8. -/
def Obligations.HaltedStepWaitsOrWakes : Prop :=
  ∀ s : State, s.endOfRun = none → s.halted = true →
    (s.deliverable = 0 → step s = .next s.countStep.eiPromote.timerAdvance) ∧
    (s.deliverable ≠ 0 → s.eiPromote.ime = false →
      s.countStep.beginStep = { s.countStep.eiPromote with halted := false } ∧
      s.countStep.beginStep.deliverable = s.deliverable) ∧
    (s.deliverable ≠ 0 → s.eiPromote.ime = true →
      s.countStep.beginStep.halted = false ∧ s.countStep.beginStep.ime = false)

/-- Interrupt entry: an interrupt is taken exactly when, behind the EI promotion, IME is set and a request is deliverable (R154);
else a running core fetches as the promotion left it. The lowest-numbered one is taken: IME and a pending EI cleared, PC
pushed, that bit and no other cleared in IF as the push left it, PC at the source's vector, every register and the rest of the
control state kept (R155, R156). The check, the mask 0x1F, the order of the entry and the cancelled EI are the spec's decisions
D3, D8, D9 and D38; that the push is a serial event where it writes 0x81 to 0xFF02, as the clause on the console says, is the
model's reading (notes/assumptions/9.md). -/
def Obligations.InterruptEntryTakesTheLowestSource : Prop :=
  ∀ s : State, Memory.wf s.mem = true →
    (s.eiPromote.ime = false ∨ s.deliverable = 0 → s.halted = false → s.beginStep = s.eiPromote) ∧
    (s.eiPromote.ime = true → s.deliverable ≠ 0 →
      ∃ i : Nat, i < 5 ∧ s.deliverable.getLsbD i = true ∧ (∀ j, j < i → s.deliverable.getLsbD j = false) ∧
        ControlEq { s with ime := false, eiCount := 0, halted := false } s.beginStep ∧
        s.beginStep.pc = BitVec.ofNat 16 (0x40 + 8 * i) ∧ s.beginStep.sp = s.sp - 2 ∧ s.beginStep.regs = s.regs ∧
        s.beginStep.console = pushConsole s.pc s ∧
        (∀ x, s.beginStep.memRead x =
          if x = addrIF then (s.push16 s.pc).memRead addrIF &&& ~~~ (1#8 <<< i) else (s.push16 s.pc).memRead x) ∧
        MemPushed s.pc s (s.push16 s.pc))

/-- The timer advance: the counter counts one step; when the timer is enabled and the counter is a multiple of the selected
period, TIMA is incremented, or on overflow reloaded from TMA with the Timer request set; nothing else changes (R160,
R161). The counting, the periods and the addresses are the spec's decisions D13 to D15. -/
def Obligations.TimerAdvanceCountsAndTicks : Prop :=
  ∀ s : State, Memory.wf s.mem = true →
    let n := (s.counter + 1) % 2 ^ s.params.counterBits
    let period := [2 ^ s.params.timer.k0, 2 ^ s.params.timer.k1, 2 ^ s.params.timer.k2, 2 ^ s.params.timer.k3].getD
      ((s.memRead 0xFF07).toNat % 4) 1
    let t := s.timerAdvance
    t.counter = n ∧ t.regs = s.regs ∧ t.sp = s.sp ∧ t.pc = s.pc ∧ t.console = s.console ∧
    ControlEq { s with counter := t.counter, lastTick := t.lastTick } t ∧
    ((s.memRead 0xFF07).getLsbD 2 = true ∧ n % period = 0 →
      t.lastTick = n ∧
      (s.memRead 0xFF05 ≠ 0xFF →
        ∀ x, t.memRead x = if x = 0xFF05 then s.memRead 0xFF05 + 1 else s.memRead x) ∧
      (s.memRead 0xFF05 = 0xFF →
        ∀ x, t.memRead x =
          if x = 0xFF05 then s.memRead 0xFF06
          else if x = 0xFF0F then s.memRead 0xFF0F ||| 0x04
          else s.memRead x)) ∧
    (¬((s.memRead 0xFF07).getLsbD 2 = true ∧ n % period = 0) → t.lastTick = s.lastTick ∧ t.mem = s.mem)

/-- The end of a run: a step answers a stop exactly when the run has ended, and the outcomes are decided in their order; no
state ends in a refusal (R177). The outcomes and their order are the spec's decision D42. The model's choice is that the step
behind the run's last one answers the outcome (notes/assumptions/6.md), that every step counts towards MAX_STEPS, a halted and
a faulting one too, and that MAX_STEPS = 0 allows none (notes/assumptions/7.md). -/
def Obligations.RunEndsInTheOrderOfOutcomes : Prop :=
  ∀ s : State,
    (∀ f, s.fault = some f → step s = .fault (.illegalOpcode f)) ∧
    (s.fault = none → s.console.endRequested = some .passed → step s = .fault .passed) ∧
    (s.fault = none → s.console.endRequested = some .failed → step s = .fault .failed) ∧
    (s.fault = none → s.console.endRequested = none → s.stopped = true → step s = .fault .stopped) ∧
    (s.fault = none → s.console.endRequested = none → s.stopped = false →
      ((∃ m, s.params.maxSteps = some m ∧ m ≤ s.console.stepsRun) → step s = .fault .outOfFuel) ∧
      (¬(∃ m, s.params.maxSteps = some m ∧ m ≤ s.console.stepsRun) →
        ∃ t, step s = .next t ∧ t.console.stepsRun = s.console.stepsRun + 1))

/-! ### The whole machine -/

/-- Every step keeps the invariant: memory in canonical form and only where the bus owns bytes, F's low nibble zero, the
counters within COUNTER_BITS, a pending EI within `EI_DELAY`, stopped only with `STOP_MODE = HANG`. -/
def Obligations.StepKeepsInvariant : Prop :=
  ∀ s t : State, s.Inv → step s = .next t → t.Inv

/-- The reset state and every launched state meet the invariant. -/
def Obligations.ResetAndLaunchMeetInvariant : Prop :=
  State.reset.Inv ∧ ∀ (cfg : LaunchConfig) (image : List Byte) (t : State), launch cfg (some image) = .ok t → t.Inv

/-- No step changes a ROM byte, gives a hole of the address map a value, or changes a parameter (R39: the snapshot is fixed for
the whole run). -/
def Obligations.StepNeverChangesRom : Prop :=
  ∀ s t : State, Memory.wf s.mem = true → step s = .next t →
    (∀ a : Word, a.toNat ≤ 0x7FFF → t.memRead a = s.memRead a) ∧
    (∀ a : Word, (0xE000 ≤ a.toNat ∧ a.toNat ≤ 0xFDFF) ∨ (0xFEA0 ≤ a.toNat ∧ a.toNat ≤ 0xFEFF) → t.memRead a = 0x00) ∧
    t.params = s.params

/-- Every step that raises no fault advances the timer's counter by exactly one, and one that raises the fault leaves it:
no instruction, interrupt entry or wait counts otherwise (R160, R183). The counting is the spec's decisions D13 and D31. -/
def Obligations.EveryStepCountsOnce : Prop :=
  ∀ s t : State, step s = .next t →
    (t.fault = none → t.counter = (s.counter + 1) % 2 ^ s.params.counterBits) ∧
    (t.fault ≠ none → t.counter = s.counter ∧ t.lastTick = s.lastTick)

/-- IME rises in a step only by the EI promotion at its start or by RETI (R24). -/
def Obligations.MasterEnableRisesOnlyByEiOrReti : Prop :=
  ∀ s t : State, step s = .next t → s.ime = false → t.ime = true →
    s.eiCount = 1 ∨ (s.countStep.beginStep.halted = false ∧ s.countStep.beginStep.instrAtPC = .reti)

/-- The trace, the echoed bytes and the warnings influence nothing: two states that differ in them alone step alike (R35,
R147). For the warnings it is the spec's decision D39. -/
def Obligations.LogsInfluenceNothing : Prop :=
  ∀ s u : State, s.withoutLogs = u.withoutLogs → SameOutcome (step s) (step u)
end

