-- ==== Sys2Proof/Laws/Memory.lean ====
section
/-! SUPPORT. The canonical memory: reading after writing, the canonical form kept by every operation, and two canonical memories
that read alike are equal. -/

namespace Sys2Proof.Machine

/-- The addresses of a canonical memory's tail lie above its head's. -/
def Memory.above (k : Nat) (m : Memory) : Prop := ∀ e ∈ m, k < e.1

theorem Memory.wf_cons {k : Nat} {v : Byte} {m : Memory} :
    Memory.wf ((k, v) :: m) = true ↔ v ≠ 0 ∧ Memory.above k m ∧ Memory.wf m = true := by
  induction m generalizing k v with
  | nil => simp [Memory.wf, Memory.above]
  | cons e m ih =>
    obtain ⟨k', v'⟩ := e
    simp only [Memory.wf, Bool.and_eq_true, decide_eq_true_eq, bne_iff_ne, Memory.above, List.mem_cons, forall_eq_or_imp]
    constructor
    · rintro ⟨⟨hv, hk⟩, hm⟩
      exact ⟨hv, ⟨hk, fun e he => Nat.lt_trans hk ((ih.1 hm).2.1 e he)⟩, hm⟩
    · rintro ⟨hv, ⟨hk, -⟩, hm⟩
      exact ⟨⟨hv, hk⟩, hm⟩

/-- Below the addresses listed, every byte is 0x00. -/
theorem Memory.read_above {k : Nat} {m : Memory} (h : Memory.above k m) {a : Nat} (ha : a ≤ k) : Memory.read m a = 0 := by
  induction m with
  | nil => rfl
  | cons e m ih =>
    have h1 : k < e.1 := h e (by simp)
    rw [Memory.read, if_neg (by omega)]
    exact ih fun x hx => h x (by simp [hx])

/-- Every entry of a written memory is an old entry or the byte written. -/
theorem Memory.mem_write {m : Memory} {a : Nat} {v : Byte} {e : Host.Cell} (h : e ∈ Memory.write m a v) :
    e ∈ m ∨ (e = (a, v) ∧ v ≠ 0) := by
  induction m with
  | nil =>
    simp only [Memory.write] at h
    split at h <;> simp_all
  | cons x m ih =>
    simp only [Memory.write] at h
    split at h
    · split at h
      · exact .inl h
      · simp only [List.mem_cons] at h ⊢
        rcases h with h | h
        · exact .inr ⟨h, by assumption⟩
        · exact .inl h
    · split at h
      · split at h
        · exact .inl (List.mem_cons_of_mem x h)
        · simp only [List.mem_cons] at h ⊢
          rcases h with h | h
          · exact .inr ⟨h, by assumption⟩
          · exact .inl (.inr h)
      · simp only [List.mem_cons] at h ⊢
        rcases h with h | h
        · exact .inl (.inl h)
        · exact (ih h).imp .inr id

theorem Memory.above_write {k : Nat} {m : Memory} (h : Memory.above k m) {a : Nat} (ha : k < a) (v : Byte) :
    Memory.above k (Memory.write m a v) := by
  intro e he
  rcases Memory.mem_write he with h' | ⟨rfl, -⟩
  · exact h e h'
  · exact ha

/-- A write keeps the canonical form. -/
theorem Memory.wf_write {m : Memory} (h : Memory.wf m = true) (a : Nat) (v : Byte) :
    Memory.wf (Memory.write m a v) = true := by
  induction m with
  | nil => simp only [Memory.write]; split <;> simp_all [Memory.wf]
  | cons e m ih =>
    obtain ⟨k, w⟩ := e
    obtain ⟨hw, hk, hm⟩ := Memory.wf_cons.1 h
    simp only [Memory.write]
    split
    · rename_i hak
      split
      · exact h
      · refine Memory.wf_cons.2 ⟨by assumption, ?_, h⟩
        intro e he
        rcases List.mem_cons.1 he with rfl | he
        · exact hak
        · exact Nat.lt_trans hak (hk e he)
    · split
      · rename_i hka
        subst hka
        split
        · exact hm
        · exact Memory.wf_cons.2 ⟨by assumption, hk, hm⟩
      · exact Memory.wf_cons.2 ⟨hw, Memory.above_write hk (by omega) v, ih hm⟩

/-- Reading after a write. -/
theorem Memory.read_write {m : Memory} (h : Memory.wf m = true) (a : Nat) (v : Byte) (b : Nat) :
    Memory.read (Memory.write m a v) b = if b = a then v else Memory.read m b := by
  induction m with
  | nil =>
    simp only [Memory.write]
    by_cases hb : a = b <;> split <;> simp_all [Memory.read, Ne.symm]
  | cons e m ih =>
    obtain ⟨k, w⟩ := e
    obtain ⟨-, hk, hm⟩ := Memory.wf_cons.1 h
    simp only [Memory.write]
    split
    · rename_i hak
      have h0 : Memory.read ((k, w) :: m) a = 0 := by
        rw [Memory.read, if_neg (by omega)]
        exact Memory.read_above hk (by omega)
      split
      · split <;> simp_all
      · rw [Memory.read]
        by_cases hb : a = b <;> simp [hb, Ne.symm]
    · split
      · rename_i hka
        subst hka
        split
        · by_cases hb : b = k
          · subst hb
            simp_all [Memory.read_above hk (Nat.le_refl _)]
          · simp [Memory.read, hb, Ne.symm hb]
        · by_cases hb : k = b <;> simp [Memory.read, hb, Ne.symm]
      · rw [Memory.read, ih hm, Memory.read]
        by_cases hb : b = a
        · subst hb; simp_all
        · simp [hb]

/-- A tabulated memory is canonical. -/
theorem Memory.wf_tabulate (f : Nat → Byte) (n : Nat) {m : Memory} (hm : Memory.wf m = true)
    (hk : ∀ e ∈ m, n ≤ e.1) : Memory.wf (Memory.tabulate f n m) = true := by
  induction n generalizing m with
  | zero => simpa [Memory.tabulate] using hm
  | succ n ih =>
    simp only [Memory.tabulate]
    split
    · exact ih hm fun e he => Nat.le_of_succ_le (hk e he)
    · refine ih (Memory.wf_cons.2 ⟨by assumption, fun e he => hk e he, hm⟩) ?_
      intro e he
      rcases List.mem_cons.1 he with rfl | he
      · exact Nat.le_refl _
      · exact Nat.le_of_succ_le (hk e he)

/-- Reading a tabulated memory. -/
theorem Memory.read_tabulate (f : Nat → Byte) (n : Nat) {m : Memory} (hk : ∀ e ∈ m, n ≤ e.1) (a : Nat) :
    Memory.read (Memory.tabulate f n m) a = if a < n then f a else Memory.read m a := by
  induction n generalizing m with
  | zero => simp [Memory.tabulate]
  | succ n ih =>
    simp only [Memory.tabulate]
    split
    · rename_i h0
      rw [ih fun e he => Nat.le_of_succ_le (hk e he)]
      by_cases h : a < n
      · simp [h, Nat.lt_succ_of_lt h]
      · by_cases h' : a = n
        · subst h'
          have : Memory.read m a = 0 := Memory.read_above (k := a) (fun e he => hk e he) (Nat.le_refl _)
          simp [this, h0]
        · simp [h, show ¬ a < n + 1 by omega]
    · rw [ih]
      · by_cases h : a < n
        · simp [h, Nat.lt_succ_of_lt h]
        · by_cases h' : a = n
          · subst h'; simp [Memory.read]
          · simp [h, show ¬ a < n + 1 by omega, Memory.read, show ¬ n = a by omega]
      · intro e he
        rcases List.mem_cons.1 he with rfl | he
        · exact Nat.le_refl _
        · exact Nat.le_of_succ_le (hk e he)

/-- Every entry of a tabulated memory is an old one or a tabulated byte. -/
theorem Memory.mem_tabulate {f : Nat → Byte} {n : Nat} {m : Memory} {e : Host.Cell} (h : e ∈ Memory.tabulate f n m) :
    e ∈ m ∨ (e.1 < n ∧ e.2 = f e.1 ∧ e.2 ≠ 0) := by
  induction n generalizing m with
  | zero => exact .inl (by simpa [Memory.tabulate] using h)
  | succ n ih =>
    simp only [Memory.tabulate] at h
    rcases ih h with h | ⟨h1, h2⟩
    · split at h
      · exact .inl h
      · rcases List.mem_cons.1 h with rfl | h
        · exact .inr ⟨Nat.lt_succ_self n, rfl, by assumption⟩
        · exact .inl h
    · exact .inr ⟨Nat.lt_succ_of_lt h1, h2⟩

/-- A canonical memory is determined by what it reads. -/
theorem Memory.ext_wf {m m' : Memory} (h : Memory.wf m = true) (h' : Memory.wf m' = true)
    (hr : ∀ a, Memory.read m a = Memory.read m' a) : m = m' := by
  induction m generalizing m' with
  | nil =>
    cases m' with
    | nil => rfl
    | cons e m' =>
      have := hr e.1
      simp [Memory.read] at this
      exact absurd this.symm (Memory.wf_cons.1 h').1
  | cons e m ih =>
    obtain ⟨k, v⟩ := e
    obtain ⟨hv, hk, hm⟩ := Memory.wf_cons.1 h
    cases m' with
    | nil =>
      have := hr k
      simp [Memory.read] at this
      exact absurd this hv
    | cons e' m' =>
      obtain ⟨k', v'⟩ := e'
      obtain ⟨hv', hk', hm'⟩ := Memory.wf_cons.1 h'
      have hkk : k = k' := by
        rcases Nat.lt_trichotomy k k' with hlt | heq | hgt
        · have := hr k
          simp [Memory.read, show ¬ k' = k by omega, Memory.read_above hk' (Nat.le_of_lt hlt)] at this
          exact absurd this hv
        · exact heq
        · have := hr k'
          simp [Memory.read, show ¬ k = k' by omega, Memory.read_above hk (Nat.le_of_lt hgt)] at this
          exact absurd this.symm hv'
      subst hkk
      have hvv : v = v' := by simpa [Memory.read] using hr k
      subst hvv
      congr 1
      refine ih hm hm' fun a => ?_
      by_cases ha : k = a
      · subst ha
        rw [Memory.read_above hk (Nat.le_refl _), Memory.read_above hk' (Nat.le_refl _)]
      · simpa [Memory.read, ha] using hr a

end Sys2Proof.Machine
end

