-- ==== Sys2Proof/Laws/State.lean ====
section
/-! SUPPORT. One lemma for each field of the state under each update of it, true by definition, and the register file's
read-after-write lemma: later proofs cite these and unfold no record update. -/

namespace Sys2Proof.Machine

variable (s : State)

@[simp] theorem State.setReg_regs (r : Reg8) (v : Byte) : (s.setReg r v).regs = s.regs.set r v := rfl
@[simp] theorem State.setReg_sp (r : Reg8) (v : Byte) : (s.setReg r v).sp = s.sp := rfl
@[simp] theorem State.setReg_pc (r : Reg8) (v : Byte) : (s.setReg r v).pc = s.pc := rfl
@[simp] theorem State.setReg_ime (r : Reg8) (v : Byte) : (s.setReg r v).ime = s.ime := rfl
@[simp] theorem State.setReg_eiCount (r : Reg8) (v : Byte) : (s.setReg r v).eiCount = s.eiCount := rfl
@[simp] theorem State.setReg_halted (r : Reg8) (v : Byte) : (s.setReg r v).halted = s.halted := rfl
@[simp] theorem State.setReg_stopped (r : Reg8) (v : Byte) : (s.setReg r v).stopped = s.stopped := rfl
@[simp] theorem State.setReg_fault (r : Reg8) (v : Byte) : (s.setReg r v).fault = s.fault := rfl
@[simp] theorem State.setReg_counter (r : Reg8) (v : Byte) : (s.setReg r v).counter = s.counter := rfl
@[simp] theorem State.setReg_lastTick (r : Reg8) (v : Byte) : (s.setReg r v).lastTick = s.lastTick := rfl
@[simp] theorem State.setReg_mem (r : Reg8) (v : Byte) : (s.setReg r v).mem = s.mem := rfl
@[simp] theorem State.setReg_console (r : Reg8) (v : Byte) : (s.setReg r v).console = s.console := rfl
@[simp] theorem State.setReg_params (r : Reg8) (v : Byte) : (s.setReg r v).params = s.params := rfl
@[simp] theorem State.setReg_cell (r : Reg8) (v : Byte) (x : Word) : (s.setReg r v).cell x = s.cell x := rfl
@[simp] theorem State.setReg_memRead (r : Reg8) (v : Byte) (x : Word) : (s.setReg r v).memRead x = s.memRead x := rfl

@[simp] theorem State.setSP_regs (v : Word) : (s.setSP v).regs = s.regs := rfl
@[simp] theorem State.setSP_sp (v : Word) : (s.setSP v).sp = v := rfl
@[simp] theorem State.setSP_pc (v : Word) : (s.setSP v).pc = s.pc := rfl
@[simp] theorem State.setSP_ime (v : Word) : (s.setSP v).ime = s.ime := rfl
@[simp] theorem State.setSP_eiCount (v : Word) : (s.setSP v).eiCount = s.eiCount := rfl
@[simp] theorem State.setSP_halted (v : Word) : (s.setSP v).halted = s.halted := rfl
@[simp] theorem State.setSP_stopped (v : Word) : (s.setSP v).stopped = s.stopped := rfl
@[simp] theorem State.setSP_fault (v : Word) : (s.setSP v).fault = s.fault := rfl
@[simp] theorem State.setSP_counter (v : Word) : (s.setSP v).counter = s.counter := rfl
@[simp] theorem State.setSP_lastTick (v : Word) : (s.setSP v).lastTick = s.lastTick := rfl
@[simp] theorem State.setSP_mem (v : Word) : (s.setSP v).mem = s.mem := rfl
@[simp] theorem State.setSP_console (v : Word) : (s.setSP v).console = s.console := rfl
@[simp] theorem State.setSP_params (v : Word) : (s.setSP v).params = s.params := rfl
@[simp] theorem State.setSP_reg (v : Word) (q : Reg8) : (s.setSP v).reg q = s.reg q := rfl
@[simp] theorem State.setSP_cell (v : Word) (x : Word) : (s.setSP v).cell x = s.cell x := rfl
@[simp] theorem State.setSP_memRead (v : Word) (x : Word) : (s.setSP v).memRead x = s.memRead x := rfl

@[simp] theorem State.setPC_regs (v : Word) : (s.setPC v).regs = s.regs := rfl
@[simp] theorem State.setPC_sp (v : Word) : (s.setPC v).sp = s.sp := rfl
@[simp] theorem State.setPC_pc (v : Word) : (s.setPC v).pc = v := rfl
@[simp] theorem State.setPC_ime (v : Word) : (s.setPC v).ime = s.ime := rfl
@[simp] theorem State.setPC_eiCount (v : Word) : (s.setPC v).eiCount = s.eiCount := rfl
@[simp] theorem State.setPC_halted (v : Word) : (s.setPC v).halted = s.halted := rfl
@[simp] theorem State.setPC_stopped (v : Word) : (s.setPC v).stopped = s.stopped := rfl
@[simp] theorem State.setPC_fault (v : Word) : (s.setPC v).fault = s.fault := rfl
@[simp] theorem State.setPC_counter (v : Word) : (s.setPC v).counter = s.counter := rfl
@[simp] theorem State.setPC_lastTick (v : Word) : (s.setPC v).lastTick = s.lastTick := rfl
@[simp] theorem State.setPC_mem (v : Word) : (s.setPC v).mem = s.mem := rfl
@[simp] theorem State.setPC_console (v : Word) : (s.setPC v).console = s.console := rfl
@[simp] theorem State.setPC_params (v : Word) : (s.setPC v).params = s.params := rfl
@[simp] theorem State.setPC_reg (v : Word) (q : Reg8) : (s.setPC v).reg q = s.reg q := rfl
@[simp] theorem State.setPC_cell (v : Word) (x : Word) : (s.setPC v).cell x = s.cell x := rfl
@[simp] theorem State.setPC_memRead (v : Word) (x : Word) : (s.setPC v).memRead x = s.memRead x := rfl

@[simp] theorem State.setIME_regs (v : Bool) : (s.setIME v).regs = s.regs := rfl
@[simp] theorem State.setIME_sp (v : Bool) : (s.setIME v).sp = s.sp := rfl
@[simp] theorem State.setIME_pc (v : Bool) : (s.setIME v).pc = s.pc := rfl
@[simp] theorem State.setIME_ime (v : Bool) : (s.setIME v).ime = v := rfl
@[simp] theorem State.setIME_eiCount (v : Bool) : (s.setIME v).eiCount = s.eiCount := rfl
@[simp] theorem State.setIME_halted (v : Bool) : (s.setIME v).halted = s.halted := rfl
@[simp] theorem State.setIME_stopped (v : Bool) : (s.setIME v).stopped = s.stopped := rfl
@[simp] theorem State.setIME_fault (v : Bool) : (s.setIME v).fault = s.fault := rfl
@[simp] theorem State.setIME_counter (v : Bool) : (s.setIME v).counter = s.counter := rfl
@[simp] theorem State.setIME_lastTick (v : Bool) : (s.setIME v).lastTick = s.lastTick := rfl
@[simp] theorem State.setIME_mem (v : Bool) : (s.setIME v).mem = s.mem := rfl
@[simp] theorem State.setIME_console (v : Bool) : (s.setIME v).console = s.console := rfl
@[simp] theorem State.setIME_params (v : Bool) : (s.setIME v).params = s.params := rfl
@[simp] theorem State.setIME_reg (v : Bool) (q : Reg8) : (s.setIME v).reg q = s.reg q := rfl
@[simp] theorem State.setIME_cell (v : Bool) (x : Word) : (s.setIME v).cell x = s.cell x := rfl
@[simp] theorem State.setIME_memRead (v : Bool) (x : Word) : (s.setIME v).memRead x = s.memRead x := rfl

@[simp] theorem State.setEiCount_regs (v : Fin 3) : (s.setEiCount v).regs = s.regs := rfl
@[simp] theorem State.setEiCount_sp (v : Fin 3) : (s.setEiCount v).sp = s.sp := rfl
@[simp] theorem State.setEiCount_pc (v : Fin 3) : (s.setEiCount v).pc = s.pc := rfl
@[simp] theorem State.setEiCount_ime (v : Fin 3) : (s.setEiCount v).ime = s.ime := rfl
@[simp] theorem State.setEiCount_eiCount (v : Fin 3) : (s.setEiCount v).eiCount = v := rfl
@[simp] theorem State.setEiCount_halted (v : Fin 3) : (s.setEiCount v).halted = s.halted := rfl
@[simp] theorem State.setEiCount_stopped (v : Fin 3) : (s.setEiCount v).stopped = s.stopped := rfl
@[simp] theorem State.setEiCount_fault (v : Fin 3) : (s.setEiCount v).fault = s.fault := rfl
@[simp] theorem State.setEiCount_counter (v : Fin 3) : (s.setEiCount v).counter = s.counter := rfl
@[simp] theorem State.setEiCount_lastTick (v : Fin 3) : (s.setEiCount v).lastTick = s.lastTick := rfl
@[simp] theorem State.setEiCount_mem (v : Fin 3) : (s.setEiCount v).mem = s.mem := rfl
@[simp] theorem State.setEiCount_console (v : Fin 3) : (s.setEiCount v).console = s.console := rfl
@[simp] theorem State.setEiCount_params (v : Fin 3) : (s.setEiCount v).params = s.params := rfl
@[simp] theorem State.setEiCount_reg (v : Fin 3) (q : Reg8) : (s.setEiCount v).reg q = s.reg q := rfl
@[simp] theorem State.setEiCount_cell (v : Fin 3) (x : Word) : (s.setEiCount v).cell x = s.cell x := rfl
@[simp] theorem State.setEiCount_memRead (v : Fin 3) (x : Word) : (s.setEiCount v).memRead x = s.memRead x := rfl

@[simp] theorem State.setHalted_regs (v : Bool) : (s.setHalted v).regs = s.regs := rfl
@[simp] theorem State.setHalted_sp (v : Bool) : (s.setHalted v).sp = s.sp := rfl
@[simp] theorem State.setHalted_pc (v : Bool) : (s.setHalted v).pc = s.pc := rfl
@[simp] theorem State.setHalted_ime (v : Bool) : (s.setHalted v).ime = s.ime := rfl
@[simp] theorem State.setHalted_eiCount (v : Bool) : (s.setHalted v).eiCount = s.eiCount := rfl
@[simp] theorem State.setHalted_halted (v : Bool) : (s.setHalted v).halted = v := rfl
@[simp] theorem State.setHalted_stopped (v : Bool) : (s.setHalted v).stopped = s.stopped := rfl
@[simp] theorem State.setHalted_fault (v : Bool) : (s.setHalted v).fault = s.fault := rfl
@[simp] theorem State.setHalted_counter (v : Bool) : (s.setHalted v).counter = s.counter := rfl
@[simp] theorem State.setHalted_lastTick (v : Bool) : (s.setHalted v).lastTick = s.lastTick := rfl
@[simp] theorem State.setHalted_mem (v : Bool) : (s.setHalted v).mem = s.mem := rfl
@[simp] theorem State.setHalted_console (v : Bool) : (s.setHalted v).console = s.console := rfl
@[simp] theorem State.setHalted_params (v : Bool) : (s.setHalted v).params = s.params := rfl
@[simp] theorem State.setHalted_reg (v : Bool) (q : Reg8) : (s.setHalted v).reg q = s.reg q := rfl
@[simp] theorem State.setHalted_cell (v : Bool) (x : Word) : (s.setHalted v).cell x = s.cell x := rfl
@[simp] theorem State.setHalted_memRead (v : Bool) (x : Word) : (s.setHalted v).memRead x = s.memRead x := rfl

@[simp] theorem State.setStopped_regs (v : Bool) : (s.setStopped v).regs = s.regs := rfl
@[simp] theorem State.setStopped_sp (v : Bool) : (s.setStopped v).sp = s.sp := rfl
@[simp] theorem State.setStopped_pc (v : Bool) : (s.setStopped v).pc = s.pc := rfl
@[simp] theorem State.setStopped_ime (v : Bool) : (s.setStopped v).ime = s.ime := rfl
@[simp] theorem State.setStopped_eiCount (v : Bool) : (s.setStopped v).eiCount = s.eiCount := rfl
@[simp] theorem State.setStopped_halted (v : Bool) : (s.setStopped v).halted = s.halted := rfl
@[simp] theorem State.setStopped_stopped (v : Bool) : (s.setStopped v).stopped = v := rfl
@[simp] theorem State.setStopped_fault (v : Bool) : (s.setStopped v).fault = s.fault := rfl
@[simp] theorem State.setStopped_counter (v : Bool) : (s.setStopped v).counter = s.counter := rfl
@[simp] theorem State.setStopped_lastTick (v : Bool) : (s.setStopped v).lastTick = s.lastTick := rfl
@[simp] theorem State.setStopped_mem (v : Bool) : (s.setStopped v).mem = s.mem := rfl
@[simp] theorem State.setStopped_console (v : Bool) : (s.setStopped v).console = s.console := rfl
@[simp] theorem State.setStopped_params (v : Bool) : (s.setStopped v).params = s.params := rfl
@[simp] theorem State.setStopped_reg (v : Bool) (q : Reg8) : (s.setStopped v).reg q = s.reg q := rfl
@[simp] theorem State.setStopped_cell (v : Bool) (x : Word) : (s.setStopped v).cell x = s.cell x := rfl
@[simp] theorem State.setStopped_memRead (v : Bool) (x : Word) : (s.setStopped v).memRead x = s.memRead x := rfl

@[simp] theorem State.setFault_regs (v : Option IllegalOpcode) : (s.setFault v).regs = s.regs := rfl
@[simp] theorem State.setFault_sp (v : Option IllegalOpcode) : (s.setFault v).sp = s.sp := rfl
@[simp] theorem State.setFault_pc (v : Option IllegalOpcode) : (s.setFault v).pc = s.pc := rfl
@[simp] theorem State.setFault_ime (v : Option IllegalOpcode) : (s.setFault v).ime = s.ime := rfl
@[simp] theorem State.setFault_eiCount (v : Option IllegalOpcode) : (s.setFault v).eiCount = s.eiCount := rfl
@[simp] theorem State.setFault_halted (v : Option IllegalOpcode) : (s.setFault v).halted = s.halted := rfl
@[simp] theorem State.setFault_stopped (v : Option IllegalOpcode) : (s.setFault v).stopped = s.stopped := rfl
@[simp] theorem State.setFault_fault (v : Option IllegalOpcode) : (s.setFault v).fault = v := rfl
@[simp] theorem State.setFault_counter (v : Option IllegalOpcode) : (s.setFault v).counter = s.counter := rfl
@[simp] theorem State.setFault_lastTick (v : Option IllegalOpcode) : (s.setFault v).lastTick = s.lastTick := rfl
@[simp] theorem State.setFault_mem (v : Option IllegalOpcode) : (s.setFault v).mem = s.mem := rfl
@[simp] theorem State.setFault_console (v : Option IllegalOpcode) : (s.setFault v).console = s.console := rfl
@[simp] theorem State.setFault_params (v : Option IllegalOpcode) : (s.setFault v).params = s.params := rfl
@[simp] theorem State.setFault_reg (v : Option IllegalOpcode) (q : Reg8) : (s.setFault v).reg q = s.reg q := rfl
@[simp] theorem State.setFault_cell (v : Option IllegalOpcode) (x : Word) : (s.setFault v).cell x = s.cell x := rfl
@[simp] theorem State.setFault_memRead (v : Option IllegalOpcode) (x : Word) : (s.setFault v).memRead x = s.memRead x := rfl

@[simp] theorem State.setCounter_regs (v : Nat) : (s.setCounter v).regs = s.regs := rfl
@[simp] theorem State.setCounter_sp (v : Nat) : (s.setCounter v).sp = s.sp := rfl
@[simp] theorem State.setCounter_pc (v : Nat) : (s.setCounter v).pc = s.pc := rfl
@[simp] theorem State.setCounter_ime (v : Nat) : (s.setCounter v).ime = s.ime := rfl
@[simp] theorem State.setCounter_eiCount (v : Nat) : (s.setCounter v).eiCount = s.eiCount := rfl
@[simp] theorem State.setCounter_halted (v : Nat) : (s.setCounter v).halted = s.halted := rfl
@[simp] theorem State.setCounter_stopped (v : Nat) : (s.setCounter v).stopped = s.stopped := rfl
@[simp] theorem State.setCounter_fault (v : Nat) : (s.setCounter v).fault = s.fault := rfl
@[simp] theorem State.setCounter_counter (v : Nat) : (s.setCounter v).counter = v := rfl
@[simp] theorem State.setCounter_lastTick (v : Nat) : (s.setCounter v).lastTick = s.lastTick := rfl
@[simp] theorem State.setCounter_mem (v : Nat) : (s.setCounter v).mem = s.mem := rfl
@[simp] theorem State.setCounter_console (v : Nat) : (s.setCounter v).console = s.console := rfl
@[simp] theorem State.setCounter_params (v : Nat) : (s.setCounter v).params = s.params := rfl
@[simp] theorem State.setCounter_reg (v : Nat) (q : Reg8) : (s.setCounter v).reg q = s.reg q := rfl
@[simp] theorem State.setCounter_cell (v : Nat) (x : Word) : (s.setCounter v).cell x = s.cell x := rfl
@[simp] theorem State.setCounter_memRead (v : Nat) (x : Word) : (s.setCounter v).memRead x = s.memRead x := rfl

@[simp] theorem State.setLastTick_regs (v : Nat) : (s.setLastTick v).regs = s.regs := rfl
@[simp] theorem State.setLastTick_sp (v : Nat) : (s.setLastTick v).sp = s.sp := rfl
@[simp] theorem State.setLastTick_pc (v : Nat) : (s.setLastTick v).pc = s.pc := rfl
@[simp] theorem State.setLastTick_ime (v : Nat) : (s.setLastTick v).ime = s.ime := rfl
@[simp] theorem State.setLastTick_eiCount (v : Nat) : (s.setLastTick v).eiCount = s.eiCount := rfl
@[simp] theorem State.setLastTick_halted (v : Nat) : (s.setLastTick v).halted = s.halted := rfl
@[simp] theorem State.setLastTick_stopped (v : Nat) : (s.setLastTick v).stopped = s.stopped := rfl
@[simp] theorem State.setLastTick_fault (v : Nat) : (s.setLastTick v).fault = s.fault := rfl
@[simp] theorem State.setLastTick_counter (v : Nat) : (s.setLastTick v).counter = s.counter := rfl
@[simp] theorem State.setLastTick_lastTick (v : Nat) : (s.setLastTick v).lastTick = v := rfl
@[simp] theorem State.setLastTick_mem (v : Nat) : (s.setLastTick v).mem = s.mem := rfl
@[simp] theorem State.setLastTick_console (v : Nat) : (s.setLastTick v).console = s.console := rfl
@[simp] theorem State.setLastTick_params (v : Nat) : (s.setLastTick v).params = s.params := rfl
@[simp] theorem State.setLastTick_reg (v : Nat) (q : Reg8) : (s.setLastTick v).reg q = s.reg q := rfl
@[simp] theorem State.setLastTick_cell (v : Nat) (x : Word) : (s.setLastTick v).cell x = s.cell x := rfl
@[simp] theorem State.setLastTick_memRead (v : Nat) (x : Word) : (s.setLastTick v).memRead x = s.memRead x := rfl

@[simp] theorem State.setMem_regs (v : Memory) : (s.setMem v).regs = s.regs := rfl
@[simp] theorem State.setMem_sp (v : Memory) : (s.setMem v).sp = s.sp := rfl
@[simp] theorem State.setMem_pc (v : Memory) : (s.setMem v).pc = s.pc := rfl
@[simp] theorem State.setMem_ime (v : Memory) : (s.setMem v).ime = s.ime := rfl
@[simp] theorem State.setMem_eiCount (v : Memory) : (s.setMem v).eiCount = s.eiCount := rfl
@[simp] theorem State.setMem_halted (v : Memory) : (s.setMem v).halted = s.halted := rfl
@[simp] theorem State.setMem_stopped (v : Memory) : (s.setMem v).stopped = s.stopped := rfl
@[simp] theorem State.setMem_fault (v : Memory) : (s.setMem v).fault = s.fault := rfl
@[simp] theorem State.setMem_counter (v : Memory) : (s.setMem v).counter = s.counter := rfl
@[simp] theorem State.setMem_lastTick (v : Memory) : (s.setMem v).lastTick = s.lastTick := rfl
@[simp] theorem State.setMem_mem (v : Memory) : (s.setMem v).mem = v := rfl
@[simp] theorem State.setMem_console (v : Memory) : (s.setMem v).console = s.console := rfl
@[simp] theorem State.setMem_params (v : Memory) : (s.setMem v).params = s.params := rfl
@[simp] theorem State.setMem_reg (v : Memory) (q : Reg8) : (s.setMem v).reg q = s.reg q := rfl

@[simp] theorem State.setConsole_regs (v : Console) : (s.setConsole v).regs = s.regs := rfl
@[simp] theorem State.setConsole_sp (v : Console) : (s.setConsole v).sp = s.sp := rfl
@[simp] theorem State.setConsole_pc (v : Console) : (s.setConsole v).pc = s.pc := rfl
@[simp] theorem State.setConsole_ime (v : Console) : (s.setConsole v).ime = s.ime := rfl
@[simp] theorem State.setConsole_eiCount (v : Console) : (s.setConsole v).eiCount = s.eiCount := rfl
@[simp] theorem State.setConsole_halted (v : Console) : (s.setConsole v).halted = s.halted := rfl
@[simp] theorem State.setConsole_stopped (v : Console) : (s.setConsole v).stopped = s.stopped := rfl
@[simp] theorem State.setConsole_fault (v : Console) : (s.setConsole v).fault = s.fault := rfl
@[simp] theorem State.setConsole_counter (v : Console) : (s.setConsole v).counter = s.counter := rfl
@[simp] theorem State.setConsole_lastTick (v : Console) : (s.setConsole v).lastTick = s.lastTick := rfl
@[simp] theorem State.setConsole_mem (v : Console) : (s.setConsole v).mem = s.mem := rfl
@[simp] theorem State.setConsole_console (v : Console) : (s.setConsole v).console = v := rfl
@[simp] theorem State.setConsole_params (v : Console) : (s.setConsole v).params = s.params := rfl
@[simp] theorem State.setConsole_reg (v : Console) (q : Reg8) : (s.setConsole v).reg q = s.reg q := rfl
@[simp] theorem State.setConsole_cell (v : Console) (x : Word) : (s.setConsole v).cell x = s.cell x := rfl
@[simp] theorem State.setConsole_memRead (v : Console) (x : Word) : (s.setConsole v).memRead x = s.memRead x := rfl

/-- What a write of a register leaves in it: F keeps its high nibble only (R21). -/
def regMask (r : Reg8) (v : Byte) : Byte := if r = .f then v &&& 0xF0 else v

/-- Reading a register after a write of one (R21). -/
theorem State.reg_setReg (r : Reg8) (v : Byte) (q : Reg8) :
    (s.setReg r v).reg q = if q = r then regMask r v else s.reg q := by
  cases r <;> cases q <;> simp [State.reg, State.setReg, Regs.get, Regs.set, regMask, BitVec.and_assoc]

@[simp] theorem State.reg_setReg_same (r : Reg8) (v : Byte) : (s.setReg r v).reg r = regMask r v := by
  simp [State.reg_setReg]

theorem State.reg_setReg_ne {r q : Reg8} (h : q ≠ r) (v : Byte) : (s.setReg r v).reg q = s.reg q := by
  simp [State.reg_setReg, h]

@[simp] theorem regMask_a (v : Byte) : regMask .a v = v := rfl
@[simp] theorem regMask_b (v : Byte) : regMask .b v = v := rfl
@[simp] theorem regMask_c (v : Byte) : regMask .c v = v := rfl
@[simp] theorem regMask_d (v : Byte) : regMask .d v = v := rfl
@[simp] theorem regMask_e (v : Byte) : regMask .e v = v := rfl
@[simp] theorem regMask_h (v : Byte) : regMask .h v = v := rfl
@[simp] theorem regMask_l (v : Byte) : regMask .l v = v := rfl
@[simp] theorem regMask_f (v : Byte) : regMask .f v = v &&& 0xF0 := rfl

/-- F reads with its low nibble zero (R21). -/
theorem State.reg_f_low : s.reg .f &&& 0x0F = 0 := by
  simp [State.reg, Regs.get, BitVec.and_assoc]

end Sys2Proof.Machine
end

