-- ==== Sys2Proof/Laws/Bus.lean ====
section
/-! SUPPORT. What the bus operations do, said once: each is a change of the memory and of the host's records, and reading a
byte after a write gives the written byte or the old one. -/

namespace Sys2Proof.Machine

/-! ### The regions by address -/

/-- The ROM addresses (R38). -/
theorem Region.kind_rom_iff (a : Word) : (Region.of a).kind = .rom ↔ a.toNat ≤ 0x7FFF := by
  unfold Region.of
  repeat' split
  all_goals simp only [Region.kind, reduceCtorEq, true_iff, false_iff]; omega

/-- The unmapped hole (R38). -/
theorem Region.kind_unmapped_iff (a : Word) :
    (Region.of a).kind = .unmapped ↔ 0xE000 ≤ a.toNat ∧ a.toNat ≤ 0xFDFF := by
  unfold Region.of
  repeat' split
  all_goals simp only [Region.kind, reduceCtorEq, true_iff, false_iff]; omega

/-- The prohibited hole (R38). -/
theorem Region.kind_prohibited_iff (a : Word) :
    (Region.of a).kind = .prohibited ↔ 0xFEA0 ≤ a.toNat ∧ a.toNat ≤ 0xFEFF := by
  unfold Region.of
  repeat' split
  all_goals simp only [Region.kind, reduceCtorEq, true_iff, false_iff]; omega

/-- The addresses that hold a writable byte (R38). -/
theorem Region.kind_cells_iff (a : Word) : (Region.of a).kind = .cells ↔
    (0x8000 ≤ a.toNat ∧ a.toNat ≤ 0xDFFF) ∨ (0xFE00 ≤ a.toNat ∧ a.toNat ≤ 0xFE9F) ∨ 0xFF00 ≤ a.toNat := by
  unfold Region.of
  repeat' split
  all_goals simp only [Region.kind, reduceCtorEq, true_iff, false_iff]; omega

/-! ### The bus -/

variable (s : State)

@[simp] theorem Console.warned_nil (k : Console) : k.warned [] = k := by simp [Console.warned]

@[simp] theorem Console.warned_warned (k : Console) (ws vs : List Warning) :
    (k.warned ws).warned vs = k.warned (ws ++ vs) := by simp [Console.warned]

@[simp] theorem State.setConsole_console_self : s.setConsole s.console = s := rfl

@[simp] theorem State.setConsole_setConsole (k l : Console) : (s.setConsole k).setConsole l = s.setConsole l := rfl

/-- A read leaves its warning and nothing else. -/
theorem State.noteRead_eq (a : Word) : s.noteRead a = s.setConsole (s.console.warned (readWarnings a)) := by
  unfold State.noteRead readWarnings
  cases (Region.of a).kind <;> simp only [Console.warned_nil, State.setConsole_console_self] <;> rfl

theorem State.noteR8_eq (r : R8) : s.noteR8 r = s.setConsole (s.console.warned (r8Warnings s r)) := by
  unfold State.noteR8 r8Warnings
  cases r8Direct r <;> simp [State.noteRead_eq]

/-- A write of another address than one read leaves what is read, when the byte written is not the
unlisted one. -/
theorem Memory.read_write_ne {v : Byte} (hv : v ≠ Memory.unlisted) {a b : Nat} (h : b ≠ a) (m : Memory) :
    Memory.read (Memory.write m a v) b = Memory.read m b := by
  induction m with
  | nil => rw [Memory.write, if_neg hv]; exact if_neg (Ne.symm h)
  | cons e m ih =>
    obtain ⟨k, w⟩ := e
    simp only [Memory.write, if_neg hv]
    split
    · simp [Memory.read, Ne.symm h]
    · split
      · rename_i hk; subst hk; simp [Memory.read, Ne.symm h]
      · simp [Memory.read, ih]

/-- The memory behind a bus write. -/
def State.memAfterWrite (a : Word) (v : Byte) : Memory := if writable a = true then s.mem.write a.toNat v else s.mem

/-- A write changes the memory, where the address is writable, and the host's records (R41). -/
theorem State.memWrite_eq (a : Word) (v : Byte) :
    s.memWrite a v = (s.setMem (s.memAfterWrite a v)).setConsole
      ((s.console.warned (writeWarnings a)).stored a v (s.memRead addrSB)) := by
  have hsc : (Region.of addrSC).kind = .cells := by decide
  have hsb : (Region.of addrSB).kind = .cells := by decide
  have hne : addrSB.toNat ≠ addrSC.toNat := by decide
  unfold State.memWrite writeWarnings State.memAfterWrite writable
  cases hk : (Region.of a).kind
  case cells =>
    simp only [Console.warned_nil, decide_true, if_true]
    by_cases h : a = addrSC ∧ v = 0x81
    · obtain ⟨rfl, rfl⟩ := h
      have hr : (s.setCell addrSC 0x81).cell addrSB = s.memRead addrSB := by
        unfold State.memRead
        rw [hsb]
        exact Memory.read_write_ne (by decide) hne s.mem
      rw [if_pos ⟨rfl, rfl⟩, Console.stored, if_pos ⟨rfl, rfl⟩, hr]
      rfl
    · rw [if_neg h, Console.stored, if_neg h]
      rfl
  all_goals
    have ha : ¬ (a = addrSC ∧ v = 0x81) := by
      rintro ⟨rfl, -⟩; rw [hsc] at hk; cases hk
    simp only [Console.stored, if_neg ha]
    rfl

theorem State.wf_memAfterWrite {s : State} (h : Memory.wf s.mem = true) (a : Word) (v : Byte) :
    Memory.wf (s.memAfterWrite a v) = true := by
  unfold State.memAfterWrite; split
  · exact Memory.wf_write h _ _
  · exact h

/-- Reading a byte when the memory is replaced by the one behind a write (R40, R41). -/
theorem State.memRead_memAfterWrite {s : State} (h : Memory.wf s.mem = true) (a : Word) (v : Byte) (x : Word) :
    (s.setMem (s.memAfterWrite a v)).memRead x = if x = a ∧ writable a = true then v else s.memRead x := by
  unfold State.memAfterWrite
  by_cases hw : writable a = true
  · have hk : (Region.of a).kind = .cells := by simpa [writable] using hw
    simp only [hw, if_true, and_true]
    unfold State.memRead State.cell
    by_cases hx : x = a
    · subst hx
      simp [hk, Memory.read_write h]
    · have : x.toNat ≠ a.toNat := fun e => hx (BitVec.eq_of_toNat_eq e)
      simp [hx, Memory.read_write h, this]
  · rw [if_neg hw, if_neg fun h => hw h.2]
    rfl

/-- Reading after a bus write (R40, R41). -/
theorem State.memRead_memWrite {s : State} (h : Memory.wf s.mem = true) (a : Word) (v : Byte) (x : Word) :
    (s.memWrite a v).memRead x = if x = a ∧ writable a = true then v else s.memRead x := by
  rw [State.memWrite_eq]
  exact State.memRead_memAfterWrite h a v x

theorem State.wf_memWrite {s : State} (h : Memory.wf s.mem = true) (a : Word) (v : Byte) :
    Memory.wf (s.memWrite a v).mem = true := by
  rw [State.memWrite_eq]
  exact State.wf_memAfterWrite h a v

/-- A push changes SP, the memory and the host's records (R47). -/
theorem State.push16_mem (v : Word) :
    (s.push16 v).mem = ((s.setSP (s.sp - 1)).memWrite (s.sp - 1) v.hiByte).memAfterWrite (s.sp - 2) v.loByte := by
  unfold State.push16
  rw [State.memWrite_eq]
  rfl

section
variable (v : Word) (a : Word) (b : Byte)
@[simp] theorem State.memWrite_regs : (s.memWrite a b).regs = s.regs := by rw [State.memWrite_eq]; rfl
@[simp] theorem State.memWrite_sp : (s.memWrite a b).sp = s.sp := by rw [State.memWrite_eq]; rfl
@[simp] theorem State.memWrite_pc : (s.memWrite a b).pc = s.pc := by rw [State.memWrite_eq]; rfl
@[simp] theorem State.memWrite_ime : (s.memWrite a b).ime = s.ime := by rw [State.memWrite_eq]; rfl
@[simp] theorem State.memWrite_eiCount : (s.memWrite a b).eiCount = s.eiCount := by rw [State.memWrite_eq]; rfl
@[simp] theorem State.memWrite_halted : (s.memWrite a b).halted = s.halted := by rw [State.memWrite_eq]; rfl
@[simp] theorem State.memWrite_stopped : (s.memWrite a b).stopped = s.stopped := by rw [State.memWrite_eq]; rfl
@[simp] theorem State.memWrite_fault : (s.memWrite a b).fault = s.fault := by rw [State.memWrite_eq]; rfl
@[simp] theorem State.memWrite_counter : (s.memWrite a b).counter = s.counter := by rw [State.memWrite_eq]; rfl
@[simp] theorem State.memWrite_lastTick : (s.memWrite a b).lastTick = s.lastTick := by rw [State.memWrite_eq]; rfl
@[simp] theorem State.memWrite_params : (s.memWrite a b).params = s.params := by rw [State.memWrite_eq]; rfl
@[simp] theorem State.noteRead_regs : (s.noteRead a).regs = s.regs := by rw [State.noteRead_eq]; rfl
@[simp] theorem State.noteRead_sp : (s.noteRead a).sp = s.sp := by rw [State.noteRead_eq]; rfl
@[simp] theorem State.noteRead_pc : (s.noteRead a).pc = s.pc := by rw [State.noteRead_eq]; rfl
@[simp] theorem State.noteRead_ime : (s.noteRead a).ime = s.ime := by rw [State.noteRead_eq]; rfl
@[simp] theorem State.noteRead_eiCount : (s.noteRead a).eiCount = s.eiCount := by rw [State.noteRead_eq]; rfl
@[simp] theorem State.noteRead_halted : (s.noteRead a).halted = s.halted := by rw [State.noteRead_eq]; rfl
@[simp] theorem State.noteRead_stopped : (s.noteRead a).stopped = s.stopped := by rw [State.noteRead_eq]; rfl
@[simp] theorem State.noteRead_fault : (s.noteRead a).fault = s.fault := by rw [State.noteRead_eq]; rfl
@[simp] theorem State.noteRead_counter : (s.noteRead a).counter = s.counter := by rw [State.noteRead_eq]; rfl
@[simp] theorem State.noteRead_lastTick : (s.noteRead a).lastTick = s.lastTick := by rw [State.noteRead_eq]; rfl
@[simp] theorem State.noteRead_mem : (s.noteRead a).mem = s.mem := by rw [State.noteRead_eq]; rfl
@[simp] theorem State.noteRead_params : (s.noteRead a).params = s.params := by rw [State.noteRead_eq]; rfl
@[simp] theorem State.push16_regs : (s.push16 v).regs = s.regs := by simp [State.push16]
@[simp] theorem State.push16_sp : (s.push16 v).sp = s.sp - 2 := by simp [State.push16]
@[simp] theorem State.push16_pc : (s.push16 v).pc = s.pc := by simp [State.push16]
@[simp] theorem State.push16_ime : (s.push16 v).ime = s.ime := by simp [State.push16]
@[simp] theorem State.push16_eiCount : (s.push16 v).eiCount = s.eiCount := by simp [State.push16]
@[simp] theorem State.push16_halted : (s.push16 v).halted = s.halted := by simp [State.push16]
@[simp] theorem State.push16_stopped : (s.push16 v).stopped = s.stopped := by simp [State.push16]
@[simp] theorem State.push16_fault : (s.push16 v).fault = s.fault := by simp [State.push16]
@[simp] theorem State.push16_counter : (s.push16 v).counter = s.counter := by simp [State.push16]
@[simp] theorem State.push16_lastTick : (s.push16 v).lastTick = s.lastTick := by simp [State.push16]
@[simp] theorem State.push16_params : (s.push16 v).params = s.params := by simp [State.push16]
@[simp] theorem State.popped_regs : s.popped.regs = s.regs := by simp [State.popped]
@[simp] theorem State.popped_sp : s.popped.sp = s.sp + 2 := by simp [State.popped]
@[simp] theorem State.popped_pc : s.popped.pc = s.pc := by simp [State.popped]
@[simp] theorem State.popped_ime : s.popped.ime = s.ime := by simp [State.popped]
@[simp] theorem State.popped_eiCount : s.popped.eiCount = s.eiCount := by simp [State.popped]
@[simp] theorem State.popped_halted : s.popped.halted = s.halted := by simp [State.popped]
@[simp] theorem State.popped_stopped : s.popped.stopped = s.stopped := by simp [State.popped]
@[simp] theorem State.popped_fault : s.popped.fault = s.fault := by simp [State.popped]
@[simp] theorem State.popped_counter : s.popped.counter = s.counter := by simp [State.popped]
@[simp] theorem State.popped_lastTick : s.popped.lastTick = s.lastTick := by simp [State.popped]
@[simp] theorem State.popped_mem : s.popped.mem = s.mem := by simp [State.popped]
@[simp] theorem State.popped_params : s.popped.params = s.params := by simp [State.popped]
@[simp] theorem State.memWrite_reg (q : Reg8) : (s.memWrite a b).reg q = s.reg q := by simp [State.reg]
@[simp] theorem State.push16_reg (q : Reg8) : (s.push16 v).reg q = s.reg q := by simp [State.reg]
@[simp] theorem State.popped_reg (q : Reg8) : s.popped.reg q = s.reg q := by simp [State.reg]
@[simp] theorem State.popped_memRead (x : Word) : s.popped.memRead x = s.memRead x := by simp [State.memRead, State.cell]
end

end Sys2Proof.Machine
end

