-- ==== Sys2Proof/Laws/Word.lean ====
section
/-! SUPPORT. Words and their bytes, and the values of two- and three-bit fields. -/

namespace Sys2Proof

theorem Word.toNat_ofBytes (hi lo : Byte) : (Word.ofBytes hi lo).toNat = hi.toNat * 256 + lo.toNat := by
  have h : (Word.ofBytes hi lo).toNat = hi.toNat <<< 8 ||| lo.toNat := BitVec.toNat_append hi lo
  rw [h, Nat.shiftLeft_eq, Nat.mul_comm, ← Nat.two_pow_add_eq_or_of_lt lo.isLt]

theorem Word.toNat_hiByte (v : Word) : v.hiByte.toNat = v.toNat / 256 := by
  have := v.isLt
  simp [Word.hiByte, Nat.shiftRight_eq_div_pow]
  omega

theorem Word.toNat_loByte (v : Word) : v.loByte.toNat = v.toNat % 256 := by simp [Word.loByte]

@[simp] theorem Word.hiByte_ofBytes (hi lo : Byte) : (Word.ofBytes hi lo).hiByte = hi := by
  apply BitVec.eq_of_toNat_eq
  rw [Word.toNat_hiByte, Word.toNat_ofBytes]
  have := lo.isLt
  omega

@[simp] theorem Word.loByte_ofBytes (hi lo : Byte) : (Word.ofBytes hi lo).loByte = lo := by
  apply BitVec.eq_of_toNat_eq
  rw [Word.toNat_loByte, Word.toNat_ofBytes]
  have := lo.isLt
  omega

@[simp] theorem Word.ofBytes_bytes (v : Word) : Word.ofBytes v.hiByte v.loByte = v := by
  apply BitVec.eq_of_toNat_eq
  rw [Word.toNat_ofBytes, Word.toNat_hiByte, Word.toNat_loByte]
  omega

theorem Word.getLsbD_ofBytes (hi lo : Byte) (i : Nat) :
    BitVec.getLsbD (w := 16) (Word.ofBytes hi lo) i = if i < 8 then lo.getLsbD i else hi.getLsbD (i - 8) := BitVec.getLsbD_append (x := hi) (y := lo)

/-- Masking the low byte with 0xF0 masks the word with 0xFFF0 (R21, R57). -/
theorem Word.ofBytes_mask (v : Word) : Word.ofBytes v.hiByte (v.loByte &&& 0xF0) = v &&& 0xFFF0 := by
  apply BitVec.eq_of_getLsbD_eq
  intro i hi
  rw [Word.getLsbD_ofBytes]
  interval_cases i <;> simp

/-- A two-bit field holds one of four values. -/
theorem forall_bitVec2 {P : BitVec 2 → Prop} : (∀ x, P x) ↔ P 0 ∧ P 1 ∧ P 2 ∧ P 3 := by
  refine ⟨fun h => ⟨h _, h _, h _, h _⟩, fun ⟨h0, h1, h2, h3⟩ x => ?_⟩
  obtain ⟨⟨k, hk⟩⟩ := x
  interval_cases k <;> assumption

/-- A three-bit field holds one of eight values. -/
theorem forall_bitVec3 {P : BitVec 3 → Prop} :
    (∀ x, P x) ↔ P 0 ∧ P 1 ∧ P 2 ∧ P 3 ∧ P 4 ∧ P 5 ∧ P 6 ∧ P 7 := by
  refine ⟨fun h => ⟨h _, h _, h _, h _, h _, h _, h _, h _⟩, fun ⟨h0, h1, h2, h3, h4, h5, h6, h7⟩ x => ?_⟩
  obtain ⟨⟨k, hk⟩⟩ := x
  interval_cases k <;> assumption

end Sys2Proof
end

