-- ==== Sys2Proof/Laws/Decode.lean ====
section
/-! SUPPORT. How to prove something of every first byte: by the values of its three fields (R61), on which the decoder
computes. -/

namespace Sys2Proof

/-- A byte is the bits of its block, its y field and its z field (R61). -/
theorem byte_eq_fields (op : Byte) : op = opBlock op ++ opY op ++ opZ op := by
  obtain ⟨k⟩ := op
  revert k
  decide +kernel

/-- What holds for every value of the three fields holds for every byte. -/
theorem forall_byte {P : Byte → Prop} (h : ∀ (b : BitVec 2) (y z : BitVec 3), P (b ++ y ++ z)) (op : Byte) : P op := by
  rw [byte_eq_fields op]
  exact h _ _ _

/-- An instruction has one, two or three bytes (R60). -/
theorem opLength_range (op : Byte) : opLength op = 1 ∨ opLength op = 2 ∨ opLength op = 3 := by
  obtain ⟨k⟩ := op
  revert k
  decide +kernel

end Sys2Proof
end

