-- ==== Sys2Proof/Laws/Exec.lean ====
section
/-! SUPPORT. What `exec` does with the instructions of one pattern, in terms of the operation they share: one lemma for each
residual pattern of the decoder, so that no later proof splits the instructions of a pattern again. -/

namespace Sys2Proof.Machine

variable (s : State)

theorem exec_ldOf {dst src : R8} (h : ¬(dst = .atHL ∧ src = .atHL)) :
    exec (Instr.ldOf dst src) s = .next (s.ld8 dst src) := by
  cases dst <;> cases src <;> first | rfl | exact absurd ⟨rfl, rfl⟩ h

theorem exec_ldOf_halt : exec (Instr.ldOf .atHL .atHL) s = .next (s.setHalted true) := rfl

theorem exec_ldImmOf (dst : R8) (n : Byte) : exec (Instr.ldImmOf dst n) s = .next (s.ld8Imm dst n) := by
  cases dst <;> rfl

theorem exec_ldR16Of (p : R16) (v : Word) : exec (Instr.ldR16Of p v) s = .next (s.ld16Imm p v) := by cases p <;> rfl

theorem exec_storeAOf (p : R16mem) : exec (Instr.storeAOf p) s = .next (s.storeA p) := by cases p <;> rfl

theorem exec_loadAOf (p : R16mem) : exec (Instr.loadAOf p) s = .next (s.loadA p) := by cases p <;> rfl

theorem exec_pushOf (p : R16stk) : exec (Instr.pushOf p) s = .next (s.pushPair p) := by cases p <;> rfl

theorem exec_popOf (p : R16stk) : exec (Instr.popOf p) s = .next (s.popPair p) := by cases p <;> rfl

theorem exec_aluOf (op : AluOp) (r : R8) : exec (Instr.aluOf op r) s = .next (s.accR8 op r) := by
  cases op <;> cases r <;> rfl

theorem exec_aluImmOf (op : AluOp) (n : Byte) : exec (Instr.aluImmOf op n) s = .next (s.accImm op n) := by
  cases op <;> rfl

theorem exec_incR8Of (r : R8) : exec (Instr.incR8Of r) s = .next (s.inc8 r) := by cases r <;> rfl

theorem exec_decR8Of (r : R8) : exec (Instr.decR8Of r) s = .next (s.dec8 r) := by cases r <;> rfl

theorem exec_incR16Of (p : R16) : exec (Instr.incR16Of p) s = .next (s.inc16 p) := by cases p <;> rfl

theorem exec_decR16Of (p : R16) : exec (Instr.decR16Of p) s = .next (s.dec16 p) := by cases p <;> rfl

theorem exec_addHLOf (p : R16) : exec (Instr.addHLOf p) s = .next (s.addHL p) := by cases p <;> rfl

theorem exec_rotOf (op : RotOp) (r : R8) : exec (Instr.rotOf op r) s = .next (s.rot op r) := by
  cases op <;> cases r <;> rfl

theorem exec_bitOf (b : Fin 8) (r : R8) : exec (Instr.bitOf b r) s = .next (s.bitTest b r) := by
  fin_cases b <;> cases r <;> rfl

theorem exec_resOf (b : Fin 8) (r : R8) : exec (Instr.resOf b r) s = .next (s.bitReset b r) := by
  fin_cases b <;> cases r <;> rfl

theorem exec_setOf (b : Fin 8) (r : R8) : exec (Instr.setOf b r) s = .next (s.bitSet b r) := by
  fin_cases b <;> cases r <;> rfl

theorem exec_jpCcOf (cc : Cond) (a : Word) : exec (Instr.jpCcOf cc a) s = .next (s.jumpIf cc a) := by cases cc <;> rfl

theorem exec_jrCcOf (cc : Cond) (e : Byte) : exec (Instr.jrCcOf cc e) s = .next (s.jumpIf cc (s.relative e)) := by
  cases cc <;> rfl

theorem exec_callCcOf (cc : Cond) (a : Word) : exec (Instr.callCcOf cc a) s = .next (s.callIf cc a) := by
  cases cc <;> rfl

theorem exec_retCcOf (cc : Cond) : exec (Instr.retCcOf cc) s = .next (s.retIf cc) := by cases cc <;> rfl

theorem exec_rstOf (t : Fin 8) : exec (Instr.rstOf t) s = .next (s.callTo (restartAddr t)) := by fin_cases t <;> rfl

theorem exec_prefixed (b : Byte) : exec (decodePrefixed b) s = .next (s.prefixed b) := by
  unfold decodePrefixed State.prefixed
  generalize (opBlock b).toNat = k
  split <;> simp only [exec_rotOf, exec_bitOf, exec_resOf, exec_setOf]

end Sys2Proof.Machine
end

