-- ==== Sys2Proof/Laws/Flags.lean ====
section
/-! SUPPORT. Reading flags: what each flag is behind a write of F or of all four flags. -/

namespace Sys2Proof.Machine

variable (s : State)

@[simp] theorem packFlags_mask (z n h c : Bool) : packFlags z n h c &&& 0xF0 = packFlags z n h c := by
  cases z <;> cases n <;> cases h <;> cases c <;> decide

@[simp] theorem packFlags_z (z n h c : Bool) : (packFlags z n h c).getLsbD (Flag.bit .z) = z := by
  cases z <;> cases n <;> cases h <;> cases c <;> decide

@[simp] theorem packFlags_n (z n h c : Bool) : (packFlags z n h c).getLsbD (Flag.bit .n) = n := by
  cases z <;> cases n <;> cases h <;> cases c <;> decide

@[simp] theorem packFlags_h (z n h c : Bool) : (packFlags z n h c).getLsbD (Flag.bit .h) = h := by
  cases z <;> cases n <;> cases h <;> cases c <;> decide

@[simp] theorem packFlags_c (z n h c : Bool) : (packFlags z n h c).getLsbD (Flag.bit .c) = c := by
  cases z <;> cases n <;> cases h <;> cases c <;> decide

/-- The mask on a write of F keeps the four flag bits (R21). -/
theorem mask_flag_bit (v : Byte) (k : Flag) : (v &&& 0xF0).getLsbD k.bit = v.getLsbD k.bit := by
  cases k <;> simp [Flag.bit]

@[simp] theorem State.flag_setReg_f (v : Byte) (k : Flag) : (s.setReg .f v).flag k = v.getLsbD k.bit := by
  unfold State.flag
  rw [State.reg_setReg_same, regMask_f, mask_flag_bit]

theorem State.flag_congr {s t : State} (h : t.reg .f = s.reg .f) (k : Flag) : t.flag k = s.flag k := by
  unfold State.flag; rw [h]

/-- All four flags behind a write of them (R19). -/
theorem flagsAre_setReg_packFlags (z n h c : Bool) : FlagsAre (s.setReg .f (packFlags z n h c)) z n h c := by
  simp [FlagsAre]

theorem flagsAre_setFlags (z n h c : Bool) : FlagsAre (s.setFlags z n h c) z n h c :=
  flagsAre_setReg_packFlags s z n h c

end Sys2Proof.Machine
end

