-- ==== Sys2Proof/Laws/Frames.lean ====
section
/-! SUPPORT. The frames of Safety.lean for the shared operations: what each register write, bus read, bus write, operand write,
push and pop leaves unchanged, and how frames compose. A proof about an instruction composes these and unfolds no operation. -/

namespace Sys2Proof.Machine

/-! ### Composition -/

@[refl] theorem ControlEq.refl (s : State) : ControlEq s s := ⟨rfl, rfl, rfl, rfl, rfl, rfl, rfl, rfl⟩

theorem ControlEq.trans {s t u : State} (h : ControlEq s t) (k : ControlEq t u) : ControlEq s u :=
  ⟨k.ime.trans h.ime, k.eiCount.trans h.eiCount, k.halted.trans h.halted, k.stopped.trans h.stopped,
    k.fault.trans h.fault, k.counter.trans h.counter, k.lastTick.trans h.lastTick, k.params.trans h.params⟩

theorem RegsEqBut.mono {rs qs : List Reg8} {s t : State} (h : RegsEqBut rs s t) (hs : ∀ r ∈ rs, r ∈ qs) :
    RegsEqBut qs s t := fun r hr => h r fun hm => hr (hs r hm)

theorem RegsEqBut.trans {rs : List Reg8} {s t u : State} (h : RegsEqBut rs s t) (k : RegsEqBut rs t u) :
    RegsEqBut rs s u := fun r hr => (k r hr).trans (h r hr)

theorem MemEq.trans {s t u : State} (h : MemEq s t) (k : MemEq t u) : MemEq s u := fun x => (k x).trans (h x)

theorem Quiet.refl (rs : List Reg8) (s : State) : Quiet rs [] s s :=
  ⟨fun _ _ => rfl, rfl, rfl, .refl s, fun _ => rfl, by simp⟩

theorem Quiet.mono {rs qs : List Reg8} {ws : List Warning} {s t : State} (h : Quiet rs ws s t)
    (hs : ∀ r ∈ rs, r ∈ qs) : Quiet qs ws s t := ⟨h.regs.mono hs, h.sp, h.pc, h.control, h.mem, h.console⟩

theorem Quiet.trans {rs : List Reg8} {ws vs : List Warning} {s t u : State} (h : Quiet rs ws s t) (k : Quiet rs vs t u) :
    Quiet rs (ws ++ vs) s u :=
  ⟨h.regs.trans k.regs, k.sp.trans h.sp, k.pc.trans h.pc, h.control.trans k.control, h.mem.trans k.mem, by
    rw [k.console, h.console, Console.warned_warned]⟩

/-- A quiet change and then one that warns of nothing. -/
theorem Quiet.then {rs : List Reg8} {ws : List Warning} {s t u : State} (h : Quiet rs ws s t) (k : Quiet rs [] t u) :
    Quiet rs ws s u := by simpa using h.trans k

/-- A store behind a quiet change. -/
theorem Quiet.store {rs : List Reg8} {a : Word} {v : Byte} {ws vs : List Warning} {s t u : State} (h : Quiet rs ws s t)
    (k : Stores rs a v vs t u) : Stores rs a v (ws ++ vs) s u :=
  ⟨h.regs.trans k.regs, k.sp.trans h.sp, k.pc.trans h.pc, h.control.trans k.control,
    fun x => by rw [k.mem x, h.mem x], by rw [k.console, h.console, h.mem]; simp⟩

/-- A quiet change behind a store. -/
theorem Stores.then {rs : List Reg8} {a : Word} {v : Byte} {ws : List Warning} {s t u : State} (h : Stores rs a v ws s t)
    (k : Quiet rs [] t u) : Stores rs a v ws s u :=
  ⟨h.regs.trans k.regs, k.sp.trans h.sp, k.pc.trans h.pc, h.control.trans k.control,
    fun x => by rw [k.mem x, h.mem x], by rw [k.console, h.console]; simp⟩

theorem Stores.mono {rs qs : List Reg8} {a : Word} {v : Byte} {ws : List Warning} {s t : State} (h : Stores rs a v ws s t)
    (hs : ∀ r ∈ rs, r ∈ qs) : Stores qs a v ws s t := ⟨h.regs.mono hs, h.sp, h.pc, h.control, h.mem, h.console⟩

/-! ### The shared operations -/

variable (s : State)

theorem regsEqBut_setReg (r : Reg8) (v : Byte) : RegsEqBut [r] s (s.setReg r v) := fun q hq =>
  State.reg_setReg_ne s (by simpa using hq) v

theorem quiet_setReg {rs : List Reg8} {r : Reg8} (h : r ∈ rs) (v : Byte) : Quiet rs [] s (s.setReg r v) :=
  ⟨(regsEqBut_setReg s r v).mono (by simpa using h), rfl, rfl, ⟨rfl, rfl, rfl, rfl, rfl, rfl, rfl, rfl⟩, fun _ => rfl, by simp⟩

theorem quiet_setFlags {rs : List Reg8} (hf : Reg8.f ∈ rs) (z n h c : Bool) : Quiet rs [] s (s.setFlags z n h c) :=
  quiet_setReg s hf _

theorem quiet_setPair {rs : List Reg8} {hi lo : Reg8} (hhi : hi ∈ rs) (hlo : lo ∈ rs) (v : Word) :
    Quiet rs [] s (s.setPair hi lo v) :=
  (quiet_setReg s hhi v.hiByte).then (quiet_setReg (s.setReg hi v.hiByte) hlo v.loByte)

theorem quiet_setHL {rs : List Reg8} (hh : Reg8.h ∈ rs) (hl : Reg8.l ∈ rs) (v : Word) : Quiet rs [] s (s.setHL v) :=
  quiet_setPair s hh hl v

/-- A pair behind a write of it (R15). -/
theorem pair_setPair {hi lo : Reg8} (hn : hi ≠ lo) (h : hi ≠ .f) (k : lo ≠ .f) (v : Word) :
    (s.setPair hi lo v).pair hi lo = v := by
  unfold State.setPair State.pair
  rw [State.reg_setReg_same, State.reg_setReg_ne _ hn, State.reg_setReg_same]
  have e1 : regMask hi v.hiByte = v.hiByte := by cases hi <;> first | rfl | exact absurd rfl h
  have e2 : regMask lo v.loByte = v.loByte := by cases lo <;> first | rfl | exact absurd rfl k
  rw [e1, e2]
  exact Word.ofBytes_bytes v

@[simp] theorem pair_setHL (v : Word) : (s.setHL v).pair .h .l = v := pair_setPair s (by decide) (by decide) (by decide) v

theorem quiet_warned (rs : List Reg8) (ws : List Warning) : Quiet rs ws s (s.setConsole (s.console.warned ws)) :=
  ⟨fun _ _ => rfl, rfl, rfl, ⟨rfl, rfl, rfl, rfl, rfl, rfl, rfl, rfl⟩, fun _ => rfl, rfl⟩

theorem quiet_noteRead (rs : List Reg8) (a : Word) : Quiet rs (readWarnings a) s (s.noteRead a) := by
  rw [State.noteRead_eq]; exact quiet_warned s rs _

theorem quiet_noteR8 (rs : List Reg8) (r : R8) : Quiet rs (r8Warnings s r) s (s.noteR8 r) := by
  rw [State.noteR8_eq]; exact quiet_warned s rs _

theorem control_memWrite (a : Word) (v : Byte) : ControlEq s (s.memWrite a v) := by constructor <;> simp

theorem memWrite_console (a : Word) (v : Byte) :
    (s.memWrite a v).console = (s.console.warned (writeWarnings a)).stored a v (s.memRead addrSB) := by
  rw [State.memWrite_eq]; rfl

theorem stores_memWrite {s : State} (h : Memory.wf s.mem = true) (rs : List Reg8) (a : Word) (v : Byte) :
    Stores rs a v [] s (s.memWrite a v) :=
  ⟨fun q _ => by simp, by simp, by simp, control_memWrite s a v, fun x => State.memRead_memWrite h a v x,
    memWrite_console s a v⟩

/-- Replacing the host's records changes nothing that an operand is read from. -/
@[simp] theorem State.setConsole_hl (k : Console) : (s.setConsole k).hl = s.hl := rfl
@[simp] theorem State.noteRead_reg (a : Word) (q : Reg8) : (s.noteRead a).reg q = s.reg q := by simp [State.noteRead_eq]
@[simp] theorem State.noteRead_memRead (a x : Word) : (s.noteRead a).memRead x = s.memRead x := by simp [State.noteRead_eq]
@[simp] theorem State.noteR8_reg (r : R8) (q : Reg8) : (s.noteR8 r).reg q = s.reg q := by simp [State.noteR8_eq]
@[simp] theorem State.noteR8_hl (r : R8) : (s.noteR8 r).hl = s.hl := by simp [State.noteR8_eq]
@[simp] theorem State.noteR8_mem (r : R8) : (s.noteR8 r).mem = s.mem := by simp [State.noteR8_eq]
@[simp] theorem State.noteR8_flag (r : R8) (k : Flag) : (s.noteR8 r).flag k = s.flag k := by simp [State.flag]

theorem r8Direct_ne_f {r : R8} {q : Reg8} (h : r8Direct r = some q) : q ≠ .f := by
  cases r <;> simp [r8Direct] at h <;> subst h <;> decide

theorem State.reg_setReg_self_of_ne_f {q : Reg8} (h : q ≠ .f) (v : Byte) : (s.setReg q v).reg q = v := by
  cases q <;> first | exact absurd rfl h | rfl

/-- Writing an operand behind the warnings of reading one (R55). -/
theorem writesR8_writeR8 {s : State} (h : Memory.wf s.mem = true) (r src : R8) (v : Byte) (rs : List Reg8) :
    WritesR8 r v rs (r8Warnings s src) s ((s.noteR8 src).writeR8 r v) := by
  unfold WritesR8 State.writeR8
  cases hr : r8Direct r with
  | some q =>
    exact ⟨State.reg_setReg_self_of_ne_f _ (r8Direct_ne_f hr) v,
      (quiet_noteR8 s _ src).then (quiet_setReg _ (by simp) v)⟩
  | none =>
    have h' : Memory.wf (s.noteR8 src).mem = true := by simpa using h
    have := (quiet_noteR8 s rs src).store (stores_memWrite h' rs (s.noteR8 src).hl v)
    simpa using this

/-- Writing an operand whose value needs no read (R55). -/
theorem writesR8_writeR8_imm {s : State} (h : Memory.wf s.mem = true) (r : R8) (v : Byte) (rs : List Reg8) :
    WritesR8 r v rs [] s (s.writeR8 r v) := writesR8_writeR8 h r .a v rs

/-- Writing F behind an operand write keeps the operand's frame. -/
theorem WritesR8.setF {r : R8} {v : Byte} {ws : List Warning} {s t : State} (h : WritesR8 r v [.f] ws s t) (f : Byte) :
    WritesR8 r v [.f] ws s (t.setReg .f f) := by
  unfold WritesR8 at h ⊢
  cases hr : r8Direct r with
  | some q =>
    rw [hr] at h
    exact ⟨(State.reg_setReg_ne t (r8Direct_ne_f hr) f).trans h.1, h.2.then (quiet_setReg t (by simp) f)⟩
  | none =>
    rw [hr] at h
    exact Stores.then h (quiet_setReg t (by simp) f)

/-- Writing both halves of a pair (R15, R56). -/
theorem writesR16_writeR16 (p : R16) (v : Word) : WritesR16 p v [] s (s.writeR16 p v) := by
  cases p
  case sp => exact ⟨rfl, fun _ _ => rfl, rfl, ⟨rfl, rfl, rfl, rfl, rfl, rfl, rfl, rfl⟩, fun _ => rfl, rfl⟩
  all_goals exact ⟨rfl, rfl, quiet_setPair s (by simp) (by simp) v⟩

/-- What a push leaves (R47). -/
theorem pushes_push16 {s : State} (h : Memory.wf s.mem = true) (v : Word) : Pushes v s (s.push16 v) := by
  have h1 : Memory.wf ((s.setSP (s.sp - 1)).memWrite (s.sp - 1) v.hiByte).mem = true :=
    State.wf_memWrite (s := s.setSP (s.sp - 1)) h _ _
  have hm : ∀ x, ((s.setSP (s.sp - 1)).memWrite (s.sp - 1) v.hiByte).memRead x =
      if x = s.sp - 1 ∧ writable (s.sp - 1) = true then v.hiByte else s.memRead x := fun x =>
    State.memRead_memWrite (s := s.setSP (s.sp - 1)) h _ _ x
  refine ⟨fun q _ => by simp, by simp, fun x => ?_, ?_⟩
  · unfold State.push16
    rw [State.memRead_memWrite (by simpa using h1)]
    simp only [State.setSP_memRead]
    rw [hm]
  · unfold State.push16 pushConsole
    rw [memWrite_console, State.setSP_console, memWrite_console, State.setSP_memRead, State.setSP_memRead, hm]
    have hw : writable addrSB = true := by decide
    by_cases hsp : s.sp - 1 = addrSB
    · simp only [hsp, hw, and_self, if_true]; rfl
    · simp only [hsp, if_false, Ne.symm hsp, false_and]; rfl

theorem State.wf_push16 {s : State} (h : Memory.wf s.mem = true) (v : Word) : Memory.wf (s.push16 v).mem = true := by
  rw [State.push16_mem]
  exact State.wf_memAfterWrite (State.wf_memWrite (s := s.setSP (s.sp - 1)) h _ _) _ _

theorem control_push16 (v : Word) : ControlEq s (s.push16 v) := by constructor <;> simp

theorem control_popped : ControlEq s s.popped := by constructor <;> simp

/-- What a pop leaves (R48). -/
theorem pops_popped : Pops [] s s.popped := by
  refine ⟨fun q _ => by simp, by simp, fun x => by simp, ?_⟩
  unfold State.popped
  rw [State.setSP_console, State.noteRead_eq, State.setConsole_console, State.noteRead_eq, State.setConsole_console,
    Console.warned_warned]

theorem Pops.mono {rs qs : List Reg8} {s t : State} (h : Pops rs s t) (hs : ∀ r ∈ rs, r ∈ qs) : Pops qs s t :=
  ⟨h.regs.mono hs, h.sp, h.mem, h.console⟩

theorem Pops.then {rs : List Reg8} {s t u : State} (h : Pops rs s t) (k : Quiet rs [] t u) : Pops rs s u :=
  ⟨h.regs.trans k.regs, k.sp.trans h.sp, h.mem.trans k.mem, by rw [k.console, h.console]; simp⟩

end Sys2Proof.Machine
end

