-- ==== Sys2Proof/Laws/Effect.lean ====
section
/-! SUPPORT. Everything an instruction can do, said once: `exec_eq_run` turns `exec` into one of the shared operations, named
by `Op`, and `Op.kept`, `Op.flagLow` and `Op.control` say what all of them keep. Proofs about all instructions split the
cases of `Op` and never the constructors of `Instr`. -/

namespace Sys2Proof.Machine

/-- The shared operations that the instructions are. -/
inductive Op where
  | nop
  | ld8 (dst src : R8)
  | ld8Imm (dst : R8) (n : Byte)
  | ld16Imm (p : R16) (v : Word)
  | storeA (p : R16mem)
  | loadA (p : R16mem)
  | storeAAt (a : Word)
  | loadAAt (a : Word)
  | storeAHighC
  | loadAHighC
  | storeSP (a : Word)
  | ldSPHL
  | pushPair (p : R16stk)
  | popPair (p : R16stk)
  | accR8 (op : AluOp) (r : R8)
  | accImm (op : AluOp) (n : Byte)
  | inc8 (r : R8)
  | dec8 (r : R8)
  | daa
  | cpl
  | scf
  | ccf
  | inc16 (p : R16)
  | dec16 (p : R16)
  | addHL (p : R16)
  | addSP (e : Byte)
  | ldHLSP (e : Byte)
  | rotA (op : RotOp)
  | rot (op : RotOp) (r : R8)
  | bitTest (b : Fin 8) (r : R8)
  | bitReset (b : Fin 8) (r : R8)
  | bitSet (b : Fin 8) (r : R8)
  | prefixed (b : Byte)
  | jumpTo (a : Word)
  | jumpHL
  | jumpRel (e : Byte)
  | jumpIf (cc : Cond) (a : Word)
  | jumpRelIf (cc : Cond) (e : Byte)
  | callTo (a : Word)
  | callIf (cc : Cond) (a : Word)
  | ret
  | retIf (cc : Cond)
  | reti
  | halt
  | stop
  | di
  | ei
  | illegal (op : Byte)
deriving DecidableEq, Repr

/-- What an operation does. -/
def Op.run (s : State) : Op → State
  | .nop => s
  | .ld8 dst src => s.ld8 dst src
  | .ld8Imm dst n => s.ld8Imm dst n
  | .ld16Imm p v => s.ld16Imm p v
  | .storeA p => s.storeA p
  | .loadA p => s.loadA p
  | .storeAAt a => s.storeAAt a
  | .loadAAt a => s.loadAAt a
  | .storeAHighC => s.storeAAt (highPage (s.reg .c))
  | .loadAHighC => s.loadAAt (highPage (s.reg .c))
  | .storeSP a => s.storeSP a
  | .ldSPHL => s.ldSPHL
  | .pushPair p => s.pushPair p
  | .popPair p => s.popPair p
  | .accR8 op r => s.accR8 op r
  | .accImm op n => s.accImm op n
  | .inc8 r => s.inc8 r
  | .dec8 r => s.dec8 r
  | .daa => s.daa
  | .cpl => s.cpl
  | .scf => s.scf
  | .ccf => s.ccf
  | .inc16 p => s.inc16 p
  | .dec16 p => s.dec16 p
  | .addHL p => s.addHL p
  | .addSP e => s.addSP e
  | .ldHLSP e => s.ldHLSP e
  | .rotA op => s.rotA op
  | .rot op r => s.rot op r
  | .bitTest b r => s.bitTest b r
  | .bitReset b r => s.bitReset b r
  | .bitSet b r => s.bitSet b r
  | .prefixed b => s.prefixed b
  | .jumpTo a => s.jumpTo a
  | .jumpHL => s.jumpTo s.hl
  | .jumpRel e => s.jumpTo (s.relative e)
  | .jumpIf cc a => s.jumpIf cc a
  | .jumpRelIf cc e => s.jumpIf cc (s.relative e)
  | .callTo a => s.callTo a
  | .callIf cc a => s.callIf cc a
  | .ret => s.ret
  | .retIf cc => s.retIf cc
  | .reti => s.returnFromInterrupt
  | .halt => s.setHalted true
  | .stop => s.stop
  | .di => (s.setIME false).setEiCount 0
  | .ei => s.setEiCount s.eiDelayCount
  | .illegal op => s.raiseIllegalOpcode op

theorem illegal_spec {i : Instr} {op : Byte} (h : encode i = [op]) (hm : op ∈ illegalBytes) (b : Byte)
    (e : Op.illegal op = .illegal b) : encode i = [b] ∧ b ∈ illegalBytes := by
  injection e with e
  exact e ▸ ⟨h, hm⟩

/-- Every instruction is one of the operations; RETI alone is `reti`, and the illegal opcodes alone raise the fault. -/
theorem exec_eq_run (i : Instr) :
    ∃ o : Op, (∀ s, exec i s = .next (o.run s)) ∧ (o = .reti → i = .reti) ∧
      (∀ op, o = .illegal op → encode i = [op] ∧ op ∈ illegalBytes) := by
  cases i with
  | nop => exact ⟨.nop, fun _ => rfl, nofun, nofun⟩
  | ld_BC_n16 _ => exact ⟨.ld16Imm .bc _, fun _ => rfl, nofun, nofun⟩
  | ld_atBC_A => exact ⟨.storeA .atBC, fun _ => rfl, nofun, nofun⟩
  | inc_BC => exact ⟨.inc16 .bc, fun _ => rfl, nofun, nofun⟩
  | inc_B => exact ⟨.inc8 .b, fun _ => rfl, nofun, nofun⟩
  | dec_B => exact ⟨.dec8 .b, fun _ => rfl, nofun, nofun⟩
  | ld_B_n8 _ => exact ⟨.ld8Imm .b _, fun _ => rfl, nofun, nofun⟩
  | rlca => exact ⟨.rotA .rlc, fun _ => rfl, nofun, nofun⟩
  | ld_atN16_SP _ => exact ⟨.storeSP _, fun _ => rfl, nofun, nofun⟩
  | add_HL_BC => exact ⟨.addHL .bc, fun _ => rfl, nofun, nofun⟩
  | ld_A_atBC => exact ⟨.loadA .atBC, fun _ => rfl, nofun, nofun⟩
  | dec_BC => exact ⟨.dec16 .bc, fun _ => rfl, nofun, nofun⟩
  | inc_C => exact ⟨.inc8 .c, fun _ => rfl, nofun, nofun⟩
  | dec_C => exact ⟨.dec8 .c, fun _ => rfl, nofun, nofun⟩
  | ld_C_n8 _ => exact ⟨.ld8Imm .c _, fun _ => rfl, nofun, nofun⟩
  | rrca => exact ⟨.rotA .rrc, fun _ => rfl, nofun, nofun⟩
  | stop _ => exact ⟨.stop, fun _ => rfl, nofun, nofun⟩
  | ld_DE_n16 _ => exact ⟨.ld16Imm .de _, fun _ => rfl, nofun, nofun⟩
  | ld_atDE_A => exact ⟨.storeA .atDE, fun _ => rfl, nofun, nofun⟩
  | inc_DE => exact ⟨.inc16 .de, fun _ => rfl, nofun, nofun⟩
  | inc_D => exact ⟨.inc8 .d, fun _ => rfl, nofun, nofun⟩
  | dec_D => exact ⟨.dec8 .d, fun _ => rfl, nofun, nofun⟩
  | ld_D_n8 _ => exact ⟨.ld8Imm .d _, fun _ => rfl, nofun, nofun⟩
  | rla => exact ⟨.rotA .rl, fun _ => rfl, nofun, nofun⟩
  | jr_e8 _ => exact ⟨.jumpRel _, fun _ => rfl, nofun, nofun⟩
  | add_HL_DE => exact ⟨.addHL .de, fun _ => rfl, nofun, nofun⟩
  | ld_A_atDE => exact ⟨.loadA .atDE, fun _ => rfl, nofun, nofun⟩
  | dec_DE => exact ⟨.dec16 .de, fun _ => rfl, nofun, nofun⟩
  | inc_E => exact ⟨.inc8 .e, fun _ => rfl, nofun, nofun⟩
  | dec_E => exact ⟨.dec8 .e, fun _ => rfl, nofun, nofun⟩
  | ld_E_n8 _ => exact ⟨.ld8Imm .e _, fun _ => rfl, nofun, nofun⟩
  | rra => exact ⟨.rotA .rr, fun _ => rfl, nofun, nofun⟩
  | jr_NZ_e8 _ => exact ⟨.jumpRelIf .nz _, fun _ => rfl, nofun, nofun⟩
  | ld_HL_n16 _ => exact ⟨.ld16Imm .hl _, fun _ => rfl, nofun, nofun⟩
  | ld_atHLi_A => exact ⟨.storeA .atHLi, fun _ => rfl, nofun, nofun⟩
  | inc_HL => exact ⟨.inc16 .hl, fun _ => rfl, nofun, nofun⟩
  | inc_H => exact ⟨.inc8 .h, fun _ => rfl, nofun, nofun⟩
  | dec_H => exact ⟨.dec8 .h, fun _ => rfl, nofun, nofun⟩
  | ld_H_n8 _ => exact ⟨.ld8Imm .h _, fun _ => rfl, nofun, nofun⟩
  | daa => exact ⟨.daa, fun _ => rfl, nofun, nofun⟩
  | jr_Z_e8 _ => exact ⟨.jumpRelIf .z _, fun _ => rfl, nofun, nofun⟩
  | add_HL_HL => exact ⟨.addHL .hl, fun _ => rfl, nofun, nofun⟩
  | ld_A_atHLi => exact ⟨.loadA .atHLi, fun _ => rfl, nofun, nofun⟩
  | dec_HL => exact ⟨.dec16 .hl, fun _ => rfl, nofun, nofun⟩
  | inc_L => exact ⟨.inc8 .l, fun _ => rfl, nofun, nofun⟩
  | dec_L => exact ⟨.dec8 .l, fun _ => rfl, nofun, nofun⟩
  | ld_L_n8 _ => exact ⟨.ld8Imm .l _, fun _ => rfl, nofun, nofun⟩
  | cpl => exact ⟨.cpl, fun _ => rfl, nofun, nofun⟩
  | jr_NC_e8 _ => exact ⟨.jumpRelIf .nc _, fun _ => rfl, nofun, nofun⟩
  | ld_SP_n16 _ => exact ⟨.ld16Imm .sp _, fun _ => rfl, nofun, nofun⟩
  | ld_atHLd_A => exact ⟨.storeA .atHLd, fun _ => rfl, nofun, nofun⟩
  | inc_SP => exact ⟨.inc16 .sp, fun _ => rfl, nofun, nofun⟩
  | inc_atHL => exact ⟨.inc8 .atHL, fun _ => rfl, nofun, nofun⟩
  | dec_atHL => exact ⟨.dec8 .atHL, fun _ => rfl, nofun, nofun⟩
  | ld_atHL_n8 _ => exact ⟨.ld8Imm .atHL _, fun _ => rfl, nofun, nofun⟩
  | scf => exact ⟨.scf, fun _ => rfl, nofun, nofun⟩
  | jr_C_e8 _ => exact ⟨.jumpRelIf .c _, fun _ => rfl, nofun, nofun⟩
  | add_HL_SP => exact ⟨.addHL .sp, fun _ => rfl, nofun, nofun⟩
  | ld_A_atHLd => exact ⟨.loadA .atHLd, fun _ => rfl, nofun, nofun⟩
  | dec_SP => exact ⟨.dec16 .sp, fun _ => rfl, nofun, nofun⟩
  | inc_A => exact ⟨.inc8 .a, fun _ => rfl, nofun, nofun⟩
  | dec_A => exact ⟨.dec8 .a, fun _ => rfl, nofun, nofun⟩
  | ld_A_n8 _ => exact ⟨.ld8Imm .a _, fun _ => rfl, nofun, nofun⟩
  | ccf => exact ⟨.ccf, fun _ => rfl, nofun, nofun⟩
  | ld_B_B => exact ⟨.ld8 .b .b, fun _ => rfl, nofun, nofun⟩
  | ld_B_C => exact ⟨.ld8 .b .c, fun _ => rfl, nofun, nofun⟩
  | ld_B_D => exact ⟨.ld8 .b .d, fun _ => rfl, nofun, nofun⟩
  | ld_B_E => exact ⟨.ld8 .b .e, fun _ => rfl, nofun, nofun⟩
  | ld_B_H => exact ⟨.ld8 .b .h, fun _ => rfl, nofun, nofun⟩
  | ld_B_L => exact ⟨.ld8 .b .l, fun _ => rfl, nofun, nofun⟩
  | ld_B_atHL => exact ⟨.ld8 .b .atHL, fun _ => rfl, nofun, nofun⟩
  | ld_B_A => exact ⟨.ld8 .b .a, fun _ => rfl, nofun, nofun⟩
  | ld_C_B => exact ⟨.ld8 .c .b, fun _ => rfl, nofun, nofun⟩
  | ld_C_C => exact ⟨.ld8 .c .c, fun _ => rfl, nofun, nofun⟩
  | ld_C_D => exact ⟨.ld8 .c .d, fun _ => rfl, nofun, nofun⟩
  | ld_C_E => exact ⟨.ld8 .c .e, fun _ => rfl, nofun, nofun⟩
  | ld_C_H => exact ⟨.ld8 .c .h, fun _ => rfl, nofun, nofun⟩
  | ld_C_L => exact ⟨.ld8 .c .l, fun _ => rfl, nofun, nofun⟩
  | ld_C_atHL => exact ⟨.ld8 .c .atHL, fun _ => rfl, nofun, nofun⟩
  | ld_C_A => exact ⟨.ld8 .c .a, fun _ => rfl, nofun, nofun⟩
  | ld_D_B => exact ⟨.ld8 .d .b, fun _ => rfl, nofun, nofun⟩
  | ld_D_C => exact ⟨.ld8 .d .c, fun _ => rfl, nofun, nofun⟩
  | ld_D_D => exact ⟨.ld8 .d .d, fun _ => rfl, nofun, nofun⟩
  | ld_D_E => exact ⟨.ld8 .d .e, fun _ => rfl, nofun, nofun⟩
  | ld_D_H => exact ⟨.ld8 .d .h, fun _ => rfl, nofun, nofun⟩
  | ld_D_L => exact ⟨.ld8 .d .l, fun _ => rfl, nofun, nofun⟩
  | ld_D_atHL => exact ⟨.ld8 .d .atHL, fun _ => rfl, nofun, nofun⟩
  | ld_D_A => exact ⟨.ld8 .d .a, fun _ => rfl, nofun, nofun⟩
  | ld_E_B => exact ⟨.ld8 .e .b, fun _ => rfl, nofun, nofun⟩
  | ld_E_C => exact ⟨.ld8 .e .c, fun _ => rfl, nofun, nofun⟩
  | ld_E_D => exact ⟨.ld8 .e .d, fun _ => rfl, nofun, nofun⟩
  | ld_E_E => exact ⟨.ld8 .e .e, fun _ => rfl, nofun, nofun⟩
  | ld_E_H => exact ⟨.ld8 .e .h, fun _ => rfl, nofun, nofun⟩
  | ld_E_L => exact ⟨.ld8 .e .l, fun _ => rfl, nofun, nofun⟩
  | ld_E_atHL => exact ⟨.ld8 .e .atHL, fun _ => rfl, nofun, nofun⟩
  | ld_E_A => exact ⟨.ld8 .e .a, fun _ => rfl, nofun, nofun⟩
  | ld_H_B => exact ⟨.ld8 .h .b, fun _ => rfl, nofun, nofun⟩
  | ld_H_C => exact ⟨.ld8 .h .c, fun _ => rfl, nofun, nofun⟩
  | ld_H_D => exact ⟨.ld8 .h .d, fun _ => rfl, nofun, nofun⟩
  | ld_H_E => exact ⟨.ld8 .h .e, fun _ => rfl, nofun, nofun⟩
  | ld_H_H => exact ⟨.ld8 .h .h, fun _ => rfl, nofun, nofun⟩
  | ld_H_L => exact ⟨.ld8 .h .l, fun _ => rfl, nofun, nofun⟩
  | ld_H_atHL => exact ⟨.ld8 .h .atHL, fun _ => rfl, nofun, nofun⟩
  | ld_H_A => exact ⟨.ld8 .h .a, fun _ => rfl, nofun, nofun⟩
  | ld_L_B => exact ⟨.ld8 .l .b, fun _ => rfl, nofun, nofun⟩
  | ld_L_C => exact ⟨.ld8 .l .c, fun _ => rfl, nofun, nofun⟩
  | ld_L_D => exact ⟨.ld8 .l .d, fun _ => rfl, nofun, nofun⟩
  | ld_L_E => exact ⟨.ld8 .l .e, fun _ => rfl, nofun, nofun⟩
  | ld_L_H => exact ⟨.ld8 .l .h, fun _ => rfl, nofun, nofun⟩
  | ld_L_L => exact ⟨.ld8 .l .l, fun _ => rfl, nofun, nofun⟩
  | ld_L_atHL => exact ⟨.ld8 .l .atHL, fun _ => rfl, nofun, nofun⟩
  | ld_L_A => exact ⟨.ld8 .l .a, fun _ => rfl, nofun, nofun⟩
  | ld_atHL_B => exact ⟨.ld8 .atHL .b, fun _ => rfl, nofun, nofun⟩
  | ld_atHL_C => exact ⟨.ld8 .atHL .c, fun _ => rfl, nofun, nofun⟩
  | ld_atHL_D => exact ⟨.ld8 .atHL .d, fun _ => rfl, nofun, nofun⟩
  | ld_atHL_E => exact ⟨.ld8 .atHL .e, fun _ => rfl, nofun, nofun⟩
  | ld_atHL_H => exact ⟨.ld8 .atHL .h, fun _ => rfl, nofun, nofun⟩
  | ld_atHL_L => exact ⟨.ld8 .atHL .l, fun _ => rfl, nofun, nofun⟩
  | halt => exact ⟨.halt, fun _ => rfl, nofun, nofun⟩
  | ld_atHL_A => exact ⟨.ld8 .atHL .a, fun _ => rfl, nofun, nofun⟩
  | ld_A_B => exact ⟨.ld8 .a .b, fun _ => rfl, nofun, nofun⟩
  | ld_A_C => exact ⟨.ld8 .a .c, fun _ => rfl, nofun, nofun⟩
  | ld_A_D => exact ⟨.ld8 .a .d, fun _ => rfl, nofun, nofun⟩
  | ld_A_E => exact ⟨.ld8 .a .e, fun _ => rfl, nofun, nofun⟩
  | ld_A_H => exact ⟨.ld8 .a .h, fun _ => rfl, nofun, nofun⟩
  | ld_A_L => exact ⟨.ld8 .a .l, fun _ => rfl, nofun, nofun⟩
  | ld_A_atHL => exact ⟨.ld8 .a .atHL, fun _ => rfl, nofun, nofun⟩
  | ld_A_A => exact ⟨.ld8 .a .a, fun _ => rfl, nofun, nofun⟩
  | add_A_B => exact ⟨.accR8 .add .b, fun _ => rfl, nofun, nofun⟩
  | add_A_C => exact ⟨.accR8 .add .c, fun _ => rfl, nofun, nofun⟩
  | add_A_D => exact ⟨.accR8 .add .d, fun _ => rfl, nofun, nofun⟩
  | add_A_E => exact ⟨.accR8 .add .e, fun _ => rfl, nofun, nofun⟩
  | add_A_H => exact ⟨.accR8 .add .h, fun _ => rfl, nofun, nofun⟩
  | add_A_L => exact ⟨.accR8 .add .l, fun _ => rfl, nofun, nofun⟩
  | add_A_atHL => exact ⟨.accR8 .add .atHL, fun _ => rfl, nofun, nofun⟩
  | add_A_A => exact ⟨.accR8 .add .a, fun _ => rfl, nofun, nofun⟩
  | adc_A_B => exact ⟨.accR8 .adc .b, fun _ => rfl, nofun, nofun⟩
  | adc_A_C => exact ⟨.accR8 .adc .c, fun _ => rfl, nofun, nofun⟩
  | adc_A_D => exact ⟨.accR8 .adc .d, fun _ => rfl, nofun, nofun⟩
  | adc_A_E => exact ⟨.accR8 .adc .e, fun _ => rfl, nofun, nofun⟩
  | adc_A_H => exact ⟨.accR8 .adc .h, fun _ => rfl, nofun, nofun⟩
  | adc_A_L => exact ⟨.accR8 .adc .l, fun _ => rfl, nofun, nofun⟩
  | adc_A_atHL => exact ⟨.accR8 .adc .atHL, fun _ => rfl, nofun, nofun⟩
  | adc_A_A => exact ⟨.accR8 .adc .a, fun _ => rfl, nofun, nofun⟩
  | sub_A_B => exact ⟨.accR8 .sub .b, fun _ => rfl, nofun, nofun⟩
  | sub_A_C => exact ⟨.accR8 .sub .c, fun _ => rfl, nofun, nofun⟩
  | sub_A_D => exact ⟨.accR8 .sub .d, fun _ => rfl, nofun, nofun⟩
  | sub_A_E => exact ⟨.accR8 .sub .e, fun _ => rfl, nofun, nofun⟩
  | sub_A_H => exact ⟨.accR8 .sub .h, fun _ => rfl, nofun, nofun⟩
  | sub_A_L => exact ⟨.accR8 .sub .l, fun _ => rfl, nofun, nofun⟩
  | sub_A_atHL => exact ⟨.accR8 .sub .atHL, fun _ => rfl, nofun, nofun⟩
  | sub_A_A => exact ⟨.accR8 .sub .a, fun _ => rfl, nofun, nofun⟩
  | sbc_A_B => exact ⟨.accR8 .sbc .b, fun _ => rfl, nofun, nofun⟩
  | sbc_A_C => exact ⟨.accR8 .sbc .c, fun _ => rfl, nofun, nofun⟩
  | sbc_A_D => exact ⟨.accR8 .sbc .d, fun _ => rfl, nofun, nofun⟩
  | sbc_A_E => exact ⟨.accR8 .sbc .e, fun _ => rfl, nofun, nofun⟩
  | sbc_A_H => exact ⟨.accR8 .sbc .h, fun _ => rfl, nofun, nofun⟩
  | sbc_A_L => exact ⟨.accR8 .sbc .l, fun _ => rfl, nofun, nofun⟩
  | sbc_A_atHL => exact ⟨.accR8 .sbc .atHL, fun _ => rfl, nofun, nofun⟩
  | sbc_A_A => exact ⟨.accR8 .sbc .a, fun _ => rfl, nofun, nofun⟩
  | and_A_B => exact ⟨.accR8 .and .b, fun _ => rfl, nofun, nofun⟩
  | and_A_C => exact ⟨.accR8 .and .c, fun _ => rfl, nofun, nofun⟩
  | and_A_D => exact ⟨.accR8 .and .d, fun _ => rfl, nofun, nofun⟩
  | and_A_E => exact ⟨.accR8 .and .e, fun _ => rfl, nofun, nofun⟩
  | and_A_H => exact ⟨.accR8 .and .h, fun _ => rfl, nofun, nofun⟩
  | and_A_L => exact ⟨.accR8 .and .l, fun _ => rfl, nofun, nofun⟩
  | and_A_atHL => exact ⟨.accR8 .and .atHL, fun _ => rfl, nofun, nofun⟩
  | and_A_A => exact ⟨.accR8 .and .a, fun _ => rfl, nofun, nofun⟩
  | xor_A_B => exact ⟨.accR8 .xor .b, fun _ => rfl, nofun, nofun⟩
  | xor_A_C => exact ⟨.accR8 .xor .c, fun _ => rfl, nofun, nofun⟩
  | xor_A_D => exact ⟨.accR8 .xor .d, fun _ => rfl, nofun, nofun⟩
  | xor_A_E => exact ⟨.accR8 .xor .e, fun _ => rfl, nofun, nofun⟩
  | xor_A_H => exact ⟨.accR8 .xor .h, fun _ => rfl, nofun, nofun⟩
  | xor_A_L => exact ⟨.accR8 .xor .l, fun _ => rfl, nofun, nofun⟩
  | xor_A_atHL => exact ⟨.accR8 .xor .atHL, fun _ => rfl, nofun, nofun⟩
  | xor_A_A => exact ⟨.accR8 .xor .a, fun _ => rfl, nofun, nofun⟩
  | or_A_B => exact ⟨.accR8 .or .b, fun _ => rfl, nofun, nofun⟩
  | or_A_C => exact ⟨.accR8 .or .c, fun _ => rfl, nofun, nofun⟩
  | or_A_D => exact ⟨.accR8 .or .d, fun _ => rfl, nofun, nofun⟩
  | or_A_E => exact ⟨.accR8 .or .e, fun _ => rfl, nofun, nofun⟩
  | or_A_H => exact ⟨.accR8 .or .h, fun _ => rfl, nofun, nofun⟩
  | or_A_L => exact ⟨.accR8 .or .l, fun _ => rfl, nofun, nofun⟩
  | or_A_atHL => exact ⟨.accR8 .or .atHL, fun _ => rfl, nofun, nofun⟩
  | or_A_A => exact ⟨.accR8 .or .a, fun _ => rfl, nofun, nofun⟩
  | cp_A_B => exact ⟨.accR8 .cp .b, fun _ => rfl, nofun, nofun⟩
  | cp_A_C => exact ⟨.accR8 .cp .c, fun _ => rfl, nofun, nofun⟩
  | cp_A_D => exact ⟨.accR8 .cp .d, fun _ => rfl, nofun, nofun⟩
  | cp_A_E => exact ⟨.accR8 .cp .e, fun _ => rfl, nofun, nofun⟩
  | cp_A_H => exact ⟨.accR8 .cp .h, fun _ => rfl, nofun, nofun⟩
  | cp_A_L => exact ⟨.accR8 .cp .l, fun _ => rfl, nofun, nofun⟩
  | cp_A_atHL => exact ⟨.accR8 .cp .atHL, fun _ => rfl, nofun, nofun⟩
  | cp_A_A => exact ⟨.accR8 .cp .a, fun _ => rfl, nofun, nofun⟩
  | ret_NZ => exact ⟨.retIf .nz, fun _ => rfl, nofun, nofun⟩
  | pop_BC => exact ⟨.popPair .bc, fun _ => rfl, nofun, nofun⟩
  | jp_NZ_n16 _ => exact ⟨.jumpIf .nz _, fun _ => rfl, nofun, nofun⟩
  | jp_n16 _ => exact ⟨.jumpTo _, fun _ => rfl, nofun, nofun⟩
  | call_NZ_n16 _ => exact ⟨.callIf .nz _, fun _ => rfl, nofun, nofun⟩
  | push_BC => exact ⟨.pushPair .bc, fun _ => rfl, nofun, nofun⟩
  | add_A_n8 _ => exact ⟨.accImm .add _, fun _ => rfl, nofun, nofun⟩
  | rst_00 => exact ⟨.callTo (restartAddr 0), fun _ => rfl, nofun, nofun⟩
  | ret_Z => exact ⟨.retIf .z, fun _ => rfl, nofun, nofun⟩
  | ret => exact ⟨.ret, fun _ => rfl, nofun, nofun⟩
  | jp_Z_n16 _ => exact ⟨.jumpIf .z _, fun _ => rfl, nofun, nofun⟩
  | prefix_CB _ => exact ⟨.prefixed _, fun _ => rfl, nofun, nofun⟩
  | call_Z_n16 _ => exact ⟨.callIf .z _, fun _ => rfl, nofun, nofun⟩
  | call_n16 _ => exact ⟨.callTo _, fun _ => rfl, nofun, nofun⟩
  | adc_A_n8 _ => exact ⟨.accImm .adc _, fun _ => rfl, nofun, nofun⟩
  | rst_08 => exact ⟨.callTo (restartAddr 1), fun _ => rfl, nofun, nofun⟩
  | ret_NC => exact ⟨.retIf .nc, fun _ => rfl, nofun, nofun⟩
  | pop_DE => exact ⟨.popPair .de, fun _ => rfl, nofun, nofun⟩
  | jp_NC_n16 _ => exact ⟨.jumpIf .nc _, fun _ => rfl, nofun, nofun⟩
  | illegal_D3 => exact ⟨.illegal _, fun _ => rfl, nofun, illegal_spec rfl (by decide)⟩
  | call_NC_n16 _ => exact ⟨.callIf .nc _, fun _ => rfl, nofun, nofun⟩
  | push_DE => exact ⟨.pushPair .de, fun _ => rfl, nofun, nofun⟩
  | sub_A_n8 _ => exact ⟨.accImm .sub _, fun _ => rfl, nofun, nofun⟩
  | rst_10 => exact ⟨.callTo (restartAddr 2), fun _ => rfl, nofun, nofun⟩
  | ret_C => exact ⟨.retIf .c, fun _ => rfl, nofun, nofun⟩
  | reti => exact ⟨.reti, fun _ => rfl, fun _ => rfl, nofun⟩
  | jp_C_n16 _ => exact ⟨.jumpIf .c _, fun _ => rfl, nofun, nofun⟩
  | illegal_DB => exact ⟨.illegal _, fun _ => rfl, nofun, illegal_spec rfl (by decide)⟩
  | call_C_n16 _ => exact ⟨.callIf .c _, fun _ => rfl, nofun, nofun⟩
  | illegal_DD => exact ⟨.illegal _, fun _ => rfl, nofun, illegal_spec rfl (by decide)⟩
  | sbc_A_n8 _ => exact ⟨.accImm .sbc _, fun _ => rfl, nofun, nofun⟩
  | rst_18 => exact ⟨.callTo (restartAddr 3), fun _ => rfl, nofun, nofun⟩
  | ldh_atA8_A _ => exact ⟨.storeAAt _, fun _ => rfl, nofun, nofun⟩
  | pop_HL => exact ⟨.popPair .hl, fun _ => rfl, nofun, nofun⟩
  | ldh_atC_A => exact ⟨.storeAHighC, fun _ => rfl, nofun, nofun⟩
  | illegal_E3 => exact ⟨.illegal _, fun _ => rfl, nofun, illegal_spec rfl (by decide)⟩
  | illegal_E4 => exact ⟨.illegal _, fun _ => rfl, nofun, illegal_spec rfl (by decide)⟩
  | push_HL => exact ⟨.pushPair .hl, fun _ => rfl, nofun, nofun⟩
  | and_A_n8 _ => exact ⟨.accImm .and _, fun _ => rfl, nofun, nofun⟩
  | rst_20 => exact ⟨.callTo (restartAddr 4), fun _ => rfl, nofun, nofun⟩
  | add_SP_e8 _ => exact ⟨.addSP _, fun _ => rfl, nofun, nofun⟩
  | jp_HL => exact ⟨.jumpHL, fun _ => rfl, nofun, nofun⟩
  | ld_atN16_A _ => exact ⟨.storeAAt _, fun _ => rfl, nofun, nofun⟩
  | illegal_EB => exact ⟨.illegal _, fun _ => rfl, nofun, illegal_spec rfl (by decide)⟩
  | illegal_EC => exact ⟨.illegal _, fun _ => rfl, nofun, illegal_spec rfl (by decide)⟩
  | illegal_ED => exact ⟨.illegal _, fun _ => rfl, nofun, illegal_spec rfl (by decide)⟩
  | xor_A_n8 _ => exact ⟨.accImm .xor _, fun _ => rfl, nofun, nofun⟩
  | rst_28 => exact ⟨.callTo (restartAddr 5), fun _ => rfl, nofun, nofun⟩
  | ldh_A_atA8 _ => exact ⟨.loadAAt _, fun _ => rfl, nofun, nofun⟩
  | pop_AF => exact ⟨.popPair .af, fun _ => rfl, nofun, nofun⟩
  | ldh_A_atC => exact ⟨.loadAHighC, fun _ => rfl, nofun, nofun⟩
  | di => exact ⟨.di, fun _ => rfl, nofun, nofun⟩
  | illegal_F4 => exact ⟨.illegal _, fun _ => rfl, nofun, illegal_spec rfl (by decide)⟩
  | push_AF => exact ⟨.pushPair .af, fun _ => rfl, nofun, nofun⟩
  | or_A_n8 _ => exact ⟨.accImm .or _, fun _ => rfl, nofun, nofun⟩
  | rst_30 => exact ⟨.callTo (restartAddr 6), fun _ => rfl, nofun, nofun⟩
  | ld_HL_SPe8 _ => exact ⟨.ldHLSP _, fun _ => rfl, nofun, nofun⟩
  | ld_SP_HL => exact ⟨.ldSPHL, fun _ => rfl, nofun, nofun⟩
  | ld_A_atN16 _ => exact ⟨.loadAAt _, fun _ => rfl, nofun, nofun⟩
  | ei => exact ⟨.ei, fun _ => rfl, nofun, nofun⟩
  | illegal_FC => exact ⟨.illegal _, fun _ => rfl, nofun, illegal_spec rfl (by decide)⟩
  | illegal_FD => exact ⟨.illegal _, fun _ => rfl, nofun, illegal_spec rfl (by decide)⟩
  | cp_A_n8 _ => exact ⟨.accImm .cp _, fun _ => rfl, nofun, nofun⟩
  | rst_38 => exact ⟨.callTo (restartAddr 7), fun _ => rfl, nofun, nofun⟩
  | rlc_B => exact ⟨.rot .rlc .b, fun _ => rfl, nofun, nofun⟩
  | rlc_C => exact ⟨.rot .rlc .c, fun _ => rfl, nofun, nofun⟩
  | rlc_D => exact ⟨.rot .rlc .d, fun _ => rfl, nofun, nofun⟩
  | rlc_E => exact ⟨.rot .rlc .e, fun _ => rfl, nofun, nofun⟩
  | rlc_H => exact ⟨.rot .rlc .h, fun _ => rfl, nofun, nofun⟩
  | rlc_L => exact ⟨.rot .rlc .l, fun _ => rfl, nofun, nofun⟩
  | rlc_atHL => exact ⟨.rot .rlc .atHL, fun _ => rfl, nofun, nofun⟩
  | rlc_A => exact ⟨.rot .rlc .a, fun _ => rfl, nofun, nofun⟩
  | rrc_B => exact ⟨.rot .rrc .b, fun _ => rfl, nofun, nofun⟩
  | rrc_C => exact ⟨.rot .rrc .c, fun _ => rfl, nofun, nofun⟩
  | rrc_D => exact ⟨.rot .rrc .d, fun _ => rfl, nofun, nofun⟩
  | rrc_E => exact ⟨.rot .rrc .e, fun _ => rfl, nofun, nofun⟩
  | rrc_H => exact ⟨.rot .rrc .h, fun _ => rfl, nofun, nofun⟩
  | rrc_L => exact ⟨.rot .rrc .l, fun _ => rfl, nofun, nofun⟩
  | rrc_atHL => exact ⟨.rot .rrc .atHL, fun _ => rfl, nofun, nofun⟩
  | rrc_A => exact ⟨.rot .rrc .a, fun _ => rfl, nofun, nofun⟩
  | rl_B => exact ⟨.rot .rl .b, fun _ => rfl, nofun, nofun⟩
  | rl_C => exact ⟨.rot .rl .c, fun _ => rfl, nofun, nofun⟩
  | rl_D => exact ⟨.rot .rl .d, fun _ => rfl, nofun, nofun⟩
  | rl_E => exact ⟨.rot .rl .e, fun _ => rfl, nofun, nofun⟩
  | rl_H => exact ⟨.rot .rl .h, fun _ => rfl, nofun, nofun⟩
  | rl_L => exact ⟨.rot .rl .l, fun _ => rfl, nofun, nofun⟩
  | rl_atHL => exact ⟨.rot .rl .atHL, fun _ => rfl, nofun, nofun⟩
  | rl_A => exact ⟨.rot .rl .a, fun _ => rfl, nofun, nofun⟩
  | rr_B => exact ⟨.rot .rr .b, fun _ => rfl, nofun, nofun⟩
  | rr_C => exact ⟨.rot .rr .c, fun _ => rfl, nofun, nofun⟩
  | rr_D => exact ⟨.rot .rr .d, fun _ => rfl, nofun, nofun⟩
  | rr_E => exact ⟨.rot .rr .e, fun _ => rfl, nofun, nofun⟩
  | rr_H => exact ⟨.rot .rr .h, fun _ => rfl, nofun, nofun⟩
  | rr_L => exact ⟨.rot .rr .l, fun _ => rfl, nofun, nofun⟩
  | rr_atHL => exact ⟨.rot .rr .atHL, fun _ => rfl, nofun, nofun⟩
  | rr_A => exact ⟨.rot .rr .a, fun _ => rfl, nofun, nofun⟩
  | sla_B => exact ⟨.rot .sla .b, fun _ => rfl, nofun, nofun⟩
  | sla_C => exact ⟨.rot .sla .c, fun _ => rfl, nofun, nofun⟩
  | sla_D => exact ⟨.rot .sla .d, fun _ => rfl, nofun, nofun⟩
  | sla_E => exact ⟨.rot .sla .e, fun _ => rfl, nofun, nofun⟩
  | sla_H => exact ⟨.rot .sla .h, fun _ => rfl, nofun, nofun⟩
  | sla_L => exact ⟨.rot .sla .l, fun _ => rfl, nofun, nofun⟩
  | sla_atHL => exact ⟨.rot .sla .atHL, fun _ => rfl, nofun, nofun⟩
  | sla_A => exact ⟨.rot .sla .a, fun _ => rfl, nofun, nofun⟩
  | sra_B => exact ⟨.rot .sra .b, fun _ => rfl, nofun, nofun⟩
  | sra_C => exact ⟨.rot .sra .c, fun _ => rfl, nofun, nofun⟩
  | sra_D => exact ⟨.rot .sra .d, fun _ => rfl, nofun, nofun⟩
  | sra_E => exact ⟨.rot .sra .e, fun _ => rfl, nofun, nofun⟩
  | sra_H => exact ⟨.rot .sra .h, fun _ => rfl, nofun, nofun⟩
  | sra_L => exact ⟨.rot .sra .l, fun _ => rfl, nofun, nofun⟩
  | sra_atHL => exact ⟨.rot .sra .atHL, fun _ => rfl, nofun, nofun⟩
  | sra_A => exact ⟨.rot .sra .a, fun _ => rfl, nofun, nofun⟩
  | swap_B => exact ⟨.rot .swap .b, fun _ => rfl, nofun, nofun⟩
  | swap_C => exact ⟨.rot .swap .c, fun _ => rfl, nofun, nofun⟩
  | swap_D => exact ⟨.rot .swap .d, fun _ => rfl, nofun, nofun⟩
  | swap_E => exact ⟨.rot .swap .e, fun _ => rfl, nofun, nofun⟩
  | swap_H => exact ⟨.rot .swap .h, fun _ => rfl, nofun, nofun⟩
  | swap_L => exact ⟨.rot .swap .l, fun _ => rfl, nofun, nofun⟩
  | swap_atHL => exact ⟨.rot .swap .atHL, fun _ => rfl, nofun, nofun⟩
  | swap_A => exact ⟨.rot .swap .a, fun _ => rfl, nofun, nofun⟩
  | srl_B => exact ⟨.rot .srl .b, fun _ => rfl, nofun, nofun⟩
  | srl_C => exact ⟨.rot .srl .c, fun _ => rfl, nofun, nofun⟩
  | srl_D => exact ⟨.rot .srl .d, fun _ => rfl, nofun, nofun⟩
  | srl_E => exact ⟨.rot .srl .e, fun _ => rfl, nofun, nofun⟩
  | srl_H => exact ⟨.rot .srl .h, fun _ => rfl, nofun, nofun⟩
  | srl_L => exact ⟨.rot .srl .l, fun _ => rfl, nofun, nofun⟩
  | srl_atHL => exact ⟨.rot .srl .atHL, fun _ => rfl, nofun, nofun⟩
  | srl_A => exact ⟨.rot .srl .a, fun _ => rfl, nofun, nofun⟩
  | bit_0_B => exact ⟨.bitTest 0 .b, fun _ => rfl, nofun, nofun⟩
  | bit_0_C => exact ⟨.bitTest 0 .c, fun _ => rfl, nofun, nofun⟩
  | bit_0_D => exact ⟨.bitTest 0 .d, fun _ => rfl, nofun, nofun⟩
  | bit_0_E => exact ⟨.bitTest 0 .e, fun _ => rfl, nofun, nofun⟩
  | bit_0_H => exact ⟨.bitTest 0 .h, fun _ => rfl, nofun, nofun⟩
  | bit_0_L => exact ⟨.bitTest 0 .l, fun _ => rfl, nofun, nofun⟩
  | bit_0_atHL => exact ⟨.bitTest 0 .atHL, fun _ => rfl, nofun, nofun⟩
  | bit_0_A => exact ⟨.bitTest 0 .a, fun _ => rfl, nofun, nofun⟩
  | bit_1_B => exact ⟨.bitTest 1 .b, fun _ => rfl, nofun, nofun⟩
  | bit_1_C => exact ⟨.bitTest 1 .c, fun _ => rfl, nofun, nofun⟩
  | bit_1_D => exact ⟨.bitTest 1 .d, fun _ => rfl, nofun, nofun⟩
  | bit_1_E => exact ⟨.bitTest 1 .e, fun _ => rfl, nofun, nofun⟩
  | bit_1_H => exact ⟨.bitTest 1 .h, fun _ => rfl, nofun, nofun⟩
  | bit_1_L => exact ⟨.bitTest 1 .l, fun _ => rfl, nofun, nofun⟩
  | bit_1_atHL => exact ⟨.bitTest 1 .atHL, fun _ => rfl, nofun, nofun⟩
  | bit_1_A => exact ⟨.bitTest 1 .a, fun _ => rfl, nofun, nofun⟩
  | bit_2_B => exact ⟨.bitTest 2 .b, fun _ => rfl, nofun, nofun⟩
  | bit_2_C => exact ⟨.bitTest 2 .c, fun _ => rfl, nofun, nofun⟩
  | bit_2_D => exact ⟨.bitTest 2 .d, fun _ => rfl, nofun, nofun⟩
  | bit_2_E => exact ⟨.bitTest 2 .e, fun _ => rfl, nofun, nofun⟩
  | bit_2_H => exact ⟨.bitTest 2 .h, fun _ => rfl, nofun, nofun⟩
  | bit_2_L => exact ⟨.bitTest 2 .l, fun _ => rfl, nofun, nofun⟩
  | bit_2_atHL => exact ⟨.bitTest 2 .atHL, fun _ => rfl, nofun, nofun⟩
  | bit_2_A => exact ⟨.bitTest 2 .a, fun _ => rfl, nofun, nofun⟩
  | bit_3_B => exact ⟨.bitTest 3 .b, fun _ => rfl, nofun, nofun⟩
  | bit_3_C => exact ⟨.bitTest 3 .c, fun _ => rfl, nofun, nofun⟩
  | bit_3_D => exact ⟨.bitTest 3 .d, fun _ => rfl, nofun, nofun⟩
  | bit_3_E => exact ⟨.bitTest 3 .e, fun _ => rfl, nofun, nofun⟩
  | bit_3_H => exact ⟨.bitTest 3 .h, fun _ => rfl, nofun, nofun⟩
  | bit_3_L => exact ⟨.bitTest 3 .l, fun _ => rfl, nofun, nofun⟩
  | bit_3_atHL => exact ⟨.bitTest 3 .atHL, fun _ => rfl, nofun, nofun⟩
  | bit_3_A => exact ⟨.bitTest 3 .a, fun _ => rfl, nofun, nofun⟩
  | bit_4_B => exact ⟨.bitTest 4 .b, fun _ => rfl, nofun, nofun⟩
  | bit_4_C => exact ⟨.bitTest 4 .c, fun _ => rfl, nofun, nofun⟩
  | bit_4_D => exact ⟨.bitTest 4 .d, fun _ => rfl, nofun, nofun⟩
  | bit_4_E => exact ⟨.bitTest 4 .e, fun _ => rfl, nofun, nofun⟩
  | bit_4_H => exact ⟨.bitTest 4 .h, fun _ => rfl, nofun, nofun⟩
  | bit_4_L => exact ⟨.bitTest 4 .l, fun _ => rfl, nofun, nofun⟩
  | bit_4_atHL => exact ⟨.bitTest 4 .atHL, fun _ => rfl, nofun, nofun⟩
  | bit_4_A => exact ⟨.bitTest 4 .a, fun _ => rfl, nofun, nofun⟩
  | bit_5_B => exact ⟨.bitTest 5 .b, fun _ => rfl, nofun, nofun⟩
  | bit_5_C => exact ⟨.bitTest 5 .c, fun _ => rfl, nofun, nofun⟩
  | bit_5_D => exact ⟨.bitTest 5 .d, fun _ => rfl, nofun, nofun⟩
  | bit_5_E => exact ⟨.bitTest 5 .e, fun _ => rfl, nofun, nofun⟩
  | bit_5_H => exact ⟨.bitTest 5 .h, fun _ => rfl, nofun, nofun⟩
  | bit_5_L => exact ⟨.bitTest 5 .l, fun _ => rfl, nofun, nofun⟩
  | bit_5_atHL => exact ⟨.bitTest 5 .atHL, fun _ => rfl, nofun, nofun⟩
  | bit_5_A => exact ⟨.bitTest 5 .a, fun _ => rfl, nofun, nofun⟩
  | bit_6_B => exact ⟨.bitTest 6 .b, fun _ => rfl, nofun, nofun⟩
  | bit_6_C => exact ⟨.bitTest 6 .c, fun _ => rfl, nofun, nofun⟩
  | bit_6_D => exact ⟨.bitTest 6 .d, fun _ => rfl, nofun, nofun⟩
  | bit_6_E => exact ⟨.bitTest 6 .e, fun _ => rfl, nofun, nofun⟩
  | bit_6_H => exact ⟨.bitTest 6 .h, fun _ => rfl, nofun, nofun⟩
  | bit_6_L => exact ⟨.bitTest 6 .l, fun _ => rfl, nofun, nofun⟩
  | bit_6_atHL => exact ⟨.bitTest 6 .atHL, fun _ => rfl, nofun, nofun⟩
  | bit_6_A => exact ⟨.bitTest 6 .a, fun _ => rfl, nofun, nofun⟩
  | bit_7_B => exact ⟨.bitTest 7 .b, fun _ => rfl, nofun, nofun⟩
  | bit_7_C => exact ⟨.bitTest 7 .c, fun _ => rfl, nofun, nofun⟩
  | bit_7_D => exact ⟨.bitTest 7 .d, fun _ => rfl, nofun, nofun⟩
  | bit_7_E => exact ⟨.bitTest 7 .e, fun _ => rfl, nofun, nofun⟩
  | bit_7_H => exact ⟨.bitTest 7 .h, fun _ => rfl, nofun, nofun⟩
  | bit_7_L => exact ⟨.bitTest 7 .l, fun _ => rfl, nofun, nofun⟩
  | bit_7_atHL => exact ⟨.bitTest 7 .atHL, fun _ => rfl, nofun, nofun⟩
  | bit_7_A => exact ⟨.bitTest 7 .a, fun _ => rfl, nofun, nofun⟩
  | res_0_B => exact ⟨.bitReset 0 .b, fun _ => rfl, nofun, nofun⟩
  | res_0_C => exact ⟨.bitReset 0 .c, fun _ => rfl, nofun, nofun⟩
  | res_0_D => exact ⟨.bitReset 0 .d, fun _ => rfl, nofun, nofun⟩
  | res_0_E => exact ⟨.bitReset 0 .e, fun _ => rfl, nofun, nofun⟩
  | res_0_H => exact ⟨.bitReset 0 .h, fun _ => rfl, nofun, nofun⟩
  | res_0_L => exact ⟨.bitReset 0 .l, fun _ => rfl, nofun, nofun⟩
  | res_0_atHL => exact ⟨.bitReset 0 .atHL, fun _ => rfl, nofun, nofun⟩
  | res_0_A => exact ⟨.bitReset 0 .a, fun _ => rfl, nofun, nofun⟩
  | res_1_B => exact ⟨.bitReset 1 .b, fun _ => rfl, nofun, nofun⟩
  | res_1_C => exact ⟨.bitReset 1 .c, fun _ => rfl, nofun, nofun⟩
  | res_1_D => exact ⟨.bitReset 1 .d, fun _ => rfl, nofun, nofun⟩
  | res_1_E => exact ⟨.bitReset 1 .e, fun _ => rfl, nofun, nofun⟩
  | res_1_H => exact ⟨.bitReset 1 .h, fun _ => rfl, nofun, nofun⟩
  | res_1_L => exact ⟨.bitReset 1 .l, fun _ => rfl, nofun, nofun⟩
  | res_1_atHL => exact ⟨.bitReset 1 .atHL, fun _ => rfl, nofun, nofun⟩
  | res_1_A => exact ⟨.bitReset 1 .a, fun _ => rfl, nofun, nofun⟩
  | res_2_B => exact ⟨.bitReset 2 .b, fun _ => rfl, nofun, nofun⟩
  | res_2_C => exact ⟨.bitReset 2 .c, fun _ => rfl, nofun, nofun⟩
  | res_2_D => exact ⟨.bitReset 2 .d, fun _ => rfl, nofun, nofun⟩
  | res_2_E => exact ⟨.bitReset 2 .e, fun _ => rfl, nofun, nofun⟩
  | res_2_H => exact ⟨.bitReset 2 .h, fun _ => rfl, nofun, nofun⟩
  | res_2_L => exact ⟨.bitReset 2 .l, fun _ => rfl, nofun, nofun⟩
  | res_2_atHL => exact ⟨.bitReset 2 .atHL, fun _ => rfl, nofun, nofun⟩
  | res_2_A => exact ⟨.bitReset 2 .a, fun _ => rfl, nofun, nofun⟩
  | res_3_B => exact ⟨.bitReset 3 .b, fun _ => rfl, nofun, nofun⟩
  | res_3_C => exact ⟨.bitReset 3 .c, fun _ => rfl, nofun, nofun⟩
  | res_3_D => exact ⟨.bitReset 3 .d, fun _ => rfl, nofun, nofun⟩
  | res_3_E => exact ⟨.bitReset 3 .e, fun _ => rfl, nofun, nofun⟩
  | res_3_H => exact ⟨.bitReset 3 .h, fun _ => rfl, nofun, nofun⟩
  | res_3_L => exact ⟨.bitReset 3 .l, fun _ => rfl, nofun, nofun⟩
  | res_3_atHL => exact ⟨.bitReset 3 .atHL, fun _ => rfl, nofun, nofun⟩
  | res_3_A => exact ⟨.bitReset 3 .a, fun _ => rfl, nofun, nofun⟩
  | res_4_B => exact ⟨.bitReset 4 .b, fun _ => rfl, nofun, nofun⟩
  | res_4_C => exact ⟨.bitReset 4 .c, fun _ => rfl, nofun, nofun⟩
  | res_4_D => exact ⟨.bitReset 4 .d, fun _ => rfl, nofun, nofun⟩
  | res_4_E => exact ⟨.bitReset 4 .e, fun _ => rfl, nofun, nofun⟩
  | res_4_H => exact ⟨.bitReset 4 .h, fun _ => rfl, nofun, nofun⟩
  | res_4_L => exact ⟨.bitReset 4 .l, fun _ => rfl, nofun, nofun⟩
  | res_4_atHL => exact ⟨.bitReset 4 .atHL, fun _ => rfl, nofun, nofun⟩
  | res_4_A => exact ⟨.bitReset 4 .a, fun _ => rfl, nofun, nofun⟩
  | res_5_B => exact ⟨.bitReset 5 .b, fun _ => rfl, nofun, nofun⟩
  | res_5_C => exact ⟨.bitReset 5 .c, fun _ => rfl, nofun, nofun⟩
  | res_5_D => exact ⟨.bitReset 5 .d, fun _ => rfl, nofun, nofun⟩
  | res_5_E => exact ⟨.bitReset 5 .e, fun _ => rfl, nofun, nofun⟩
  | res_5_H => exact ⟨.bitReset 5 .h, fun _ => rfl, nofun, nofun⟩
  | res_5_L => exact ⟨.bitReset 5 .l, fun _ => rfl, nofun, nofun⟩
  | res_5_atHL => exact ⟨.bitReset 5 .atHL, fun _ => rfl, nofun, nofun⟩
  | res_5_A => exact ⟨.bitReset 5 .a, fun _ => rfl, nofun, nofun⟩
  | res_6_B => exact ⟨.bitReset 6 .b, fun _ => rfl, nofun, nofun⟩
  | res_6_C => exact ⟨.bitReset 6 .c, fun _ => rfl, nofun, nofun⟩
  | res_6_D => exact ⟨.bitReset 6 .d, fun _ => rfl, nofun, nofun⟩
  | res_6_E => exact ⟨.bitReset 6 .e, fun _ => rfl, nofun, nofun⟩
  | res_6_H => exact ⟨.bitReset 6 .h, fun _ => rfl, nofun, nofun⟩
  | res_6_L => exact ⟨.bitReset 6 .l, fun _ => rfl, nofun, nofun⟩
  | res_6_atHL => exact ⟨.bitReset 6 .atHL, fun _ => rfl, nofun, nofun⟩
  | res_6_A => exact ⟨.bitReset 6 .a, fun _ => rfl, nofun, nofun⟩
  | res_7_B => exact ⟨.bitReset 7 .b, fun _ => rfl, nofun, nofun⟩
  | res_7_C => exact ⟨.bitReset 7 .c, fun _ => rfl, nofun, nofun⟩
  | res_7_D => exact ⟨.bitReset 7 .d, fun _ => rfl, nofun, nofun⟩
  | res_7_E => exact ⟨.bitReset 7 .e, fun _ => rfl, nofun, nofun⟩
  | res_7_H => exact ⟨.bitReset 7 .h, fun _ => rfl, nofun, nofun⟩
  | res_7_L => exact ⟨.bitReset 7 .l, fun _ => rfl, nofun, nofun⟩
  | res_7_atHL => exact ⟨.bitReset 7 .atHL, fun _ => rfl, nofun, nofun⟩
  | res_7_A => exact ⟨.bitReset 7 .a, fun _ => rfl, nofun, nofun⟩
  | set_0_B => exact ⟨.bitSet 0 .b, fun _ => rfl, nofun, nofun⟩
  | set_0_C => exact ⟨.bitSet 0 .c, fun _ => rfl, nofun, nofun⟩
  | set_0_D => exact ⟨.bitSet 0 .d, fun _ => rfl, nofun, nofun⟩
  | set_0_E => exact ⟨.bitSet 0 .e, fun _ => rfl, nofun, nofun⟩
  | set_0_H => exact ⟨.bitSet 0 .h, fun _ => rfl, nofun, nofun⟩
  | set_0_L => exact ⟨.bitSet 0 .l, fun _ => rfl, nofun, nofun⟩
  | set_0_atHL => exact ⟨.bitSet 0 .atHL, fun _ => rfl, nofun, nofun⟩
  | set_0_A => exact ⟨.bitSet 0 .a, fun _ => rfl, nofun, nofun⟩
  | set_1_B => exact ⟨.bitSet 1 .b, fun _ => rfl, nofun, nofun⟩
  | set_1_C => exact ⟨.bitSet 1 .c, fun _ => rfl, nofun, nofun⟩
  | set_1_D => exact ⟨.bitSet 1 .d, fun _ => rfl, nofun, nofun⟩
  | set_1_E => exact ⟨.bitSet 1 .e, fun _ => rfl, nofun, nofun⟩
  | set_1_H => exact ⟨.bitSet 1 .h, fun _ => rfl, nofun, nofun⟩
  | set_1_L => exact ⟨.bitSet 1 .l, fun _ => rfl, nofun, nofun⟩
  | set_1_atHL => exact ⟨.bitSet 1 .atHL, fun _ => rfl, nofun, nofun⟩
  | set_1_A => exact ⟨.bitSet 1 .a, fun _ => rfl, nofun, nofun⟩
  | set_2_B => exact ⟨.bitSet 2 .b, fun _ => rfl, nofun, nofun⟩
  | set_2_C => exact ⟨.bitSet 2 .c, fun _ => rfl, nofun, nofun⟩
  | set_2_D => exact ⟨.bitSet 2 .d, fun _ => rfl, nofun, nofun⟩
  | set_2_E => exact ⟨.bitSet 2 .e, fun _ => rfl, nofun, nofun⟩
  | set_2_H => exact ⟨.bitSet 2 .h, fun _ => rfl, nofun, nofun⟩
  | set_2_L => exact ⟨.bitSet 2 .l, fun _ => rfl, nofun, nofun⟩
  | set_2_atHL => exact ⟨.bitSet 2 .atHL, fun _ => rfl, nofun, nofun⟩
  | set_2_A => exact ⟨.bitSet 2 .a, fun _ => rfl, nofun, nofun⟩
  | set_3_B => exact ⟨.bitSet 3 .b, fun _ => rfl, nofun, nofun⟩
  | set_3_C => exact ⟨.bitSet 3 .c, fun _ => rfl, nofun, nofun⟩
  | set_3_D => exact ⟨.bitSet 3 .d, fun _ => rfl, nofun, nofun⟩
  | set_3_E => exact ⟨.bitSet 3 .e, fun _ => rfl, nofun, nofun⟩
  | set_3_H => exact ⟨.bitSet 3 .h, fun _ => rfl, nofun, nofun⟩
  | set_3_L => exact ⟨.bitSet 3 .l, fun _ => rfl, nofun, nofun⟩
  | set_3_atHL => exact ⟨.bitSet 3 .atHL, fun _ => rfl, nofun, nofun⟩
  | set_3_A => exact ⟨.bitSet 3 .a, fun _ => rfl, nofun, nofun⟩
  | set_4_B => exact ⟨.bitSet 4 .b, fun _ => rfl, nofun, nofun⟩
  | set_4_C => exact ⟨.bitSet 4 .c, fun _ => rfl, nofun, nofun⟩
  | set_4_D => exact ⟨.bitSet 4 .d, fun _ => rfl, nofun, nofun⟩
  | set_4_E => exact ⟨.bitSet 4 .e, fun _ => rfl, nofun, nofun⟩
  | set_4_H => exact ⟨.bitSet 4 .h, fun _ => rfl, nofun, nofun⟩
  | set_4_L => exact ⟨.bitSet 4 .l, fun _ => rfl, nofun, nofun⟩
  | set_4_atHL => exact ⟨.bitSet 4 .atHL, fun _ => rfl, nofun, nofun⟩
  | set_4_A => exact ⟨.bitSet 4 .a, fun _ => rfl, nofun, nofun⟩
  | set_5_B => exact ⟨.bitSet 5 .b, fun _ => rfl, nofun, nofun⟩
  | set_5_C => exact ⟨.bitSet 5 .c, fun _ => rfl, nofun, nofun⟩
  | set_5_D => exact ⟨.bitSet 5 .d, fun _ => rfl, nofun, nofun⟩
  | set_5_E => exact ⟨.bitSet 5 .e, fun _ => rfl, nofun, nofun⟩
  | set_5_H => exact ⟨.bitSet 5 .h, fun _ => rfl, nofun, nofun⟩
  | set_5_L => exact ⟨.bitSet 5 .l, fun _ => rfl, nofun, nofun⟩
  | set_5_atHL => exact ⟨.bitSet 5 .atHL, fun _ => rfl, nofun, nofun⟩
  | set_5_A => exact ⟨.bitSet 5 .a, fun _ => rfl, nofun, nofun⟩
  | set_6_B => exact ⟨.bitSet 6 .b, fun _ => rfl, nofun, nofun⟩
  | set_6_C => exact ⟨.bitSet 6 .c, fun _ => rfl, nofun, nofun⟩
  | set_6_D => exact ⟨.bitSet 6 .d, fun _ => rfl, nofun, nofun⟩
  | set_6_E => exact ⟨.bitSet 6 .e, fun _ => rfl, nofun, nofun⟩
  | set_6_H => exact ⟨.bitSet 6 .h, fun _ => rfl, nofun, nofun⟩
  | set_6_L => exact ⟨.bitSet 6 .l, fun _ => rfl, nofun, nofun⟩
  | set_6_atHL => exact ⟨.bitSet 6 .atHL, fun _ => rfl, nofun, nofun⟩
  | set_6_A => exact ⟨.bitSet 6 .a, fun _ => rfl, nofun, nofun⟩
  | set_7_B => exact ⟨.bitSet 7 .b, fun _ => rfl, nofun, nofun⟩
  | set_7_C => exact ⟨.bitSet 7 .c, fun _ => rfl, nofun, nofun⟩
  | set_7_D => exact ⟨.bitSet 7 .d, fun _ => rfl, nofun, nofun⟩
  | set_7_E => exact ⟨.bitSet 7 .e, fun _ => rfl, nofun, nofun⟩
  | set_7_H => exact ⟨.bitSet 7 .h, fun _ => rfl, nofun, nofun⟩
  | set_7_L => exact ⟨.bitSet 7 .l, fun _ => rfl, nofun, nofun⟩
  | set_7_atHL => exact ⟨.bitSet 7 .atHL, fun _ => rfl, nofun, nofun⟩
  | set_7_A => exact ⟨.bitSet 7 .a, fun _ => rfl, nofun, nofun⟩

/-! ### What every instruction keeps -/

/-- Memory changed by stores at writable addresses only. -/
inductive Written (m : Memory) : Memory → Prop where
  | refl : Written m m
  | store {m' : Memory} (h : Written m m') (a : Word) (v : Byte) (hw : writable a = true) :
      Written m (m'.write a.toNat v)

theorem Written.trans {m m' m'' : Memory} (h : Written m m') (k : Written m' m'') : Written m m'' := by
  induction k with
  | refl => exact h
  | store _ a v hw ih => exact .store ih a v hw

theorem Written.wf {m m' : Memory} (h : Written m m') (hm : Memory.wf m = true) : Memory.wf m' = true := by
  induction h with
  | refl => exact hm
  | store _ a v _ ih => exact Memory.wf_write ih _ _

theorem Written.onBus {m m' : Memory} (h : Written m m') (hm : Memory.onBus m = true) : Memory.onBus m' = true := by
  induction h with
  | refl => exact hm
  | store _ a v hw ih =>
    unfold Memory.onBus at ih ⊢
    rw [List.all_eq_true] at ih ⊢
    intro e he
    rcases Memory.mem_write he with h' | ⟨rfl, -⟩
    · exact ih e h'
    · have hb : backed a = true := by
        unfold writable at hw
        unfold backed
        rw [hw, Bool.true_or]
      simpa [BitVec.ofNat_toNat, hb] using a.isLt

/-- An address that is not writable keeps its byte. -/
theorem Written.read {m m' : Memory} (h : Written m m') (hm : Memory.wf m = true) {x : Word} (hx : writable x = false) :
    Memory.read m' x.toNat = Memory.read m x.toNat := by
  induction h with
  | refl => rfl
  | store k a v hw ih =>
    have hne : x.toNat ≠ a.toNat := fun e => by
      rw [BitVec.eq_of_toNat_eq e, hw] at hx
      cases hx
    rw [Memory.read_write (k.wf hm), if_neg hne, ih]

/-- What an instruction never touches: the timer's counters, the parameters, the number of steps; and memory but for stores at
writable addresses. -/
structure Kept (s t : State) : Prop where
  mem      : Written s.mem t.mem
  params   : t.params = s.params
  counter  : t.counter = s.counter
  lastTick : t.lastTick = s.lastTick
  stepsRun : t.console.stepsRun = s.console.stepsRun

theorem Kept.refl (s : State) : Kept s s := ⟨.refl, rfl, rfl, rfl, rfl⟩

theorem Kept.trans {s t u : State} (h : Kept s t) (k : Kept t u) : Kept s u :=
  ⟨h.mem.trans k.mem, k.params.trans h.params, k.counter.trans h.counter, k.lastTick.trans h.lastTick,
    k.stepsRun.trans h.stepsRun⟩

theorem Console.stored_stepsRun (k : Console) (a : Word) (v sb : Byte) : (k.stored a v sb).stepsRun = k.stepsRun := by
  unfold Console.stored Console.serial
  split
  · split <;> rfl
  · rfl

theorem kept_memWrite (s : State) (a : Word) (v : Byte) : Kept s (s.memWrite a v) := by
  refine ⟨?_, by simp, by simp, by simp, ?_⟩
  · rw [State.memWrite_eq]
    show Written s.mem (s.memAfterWrite a v)
    unfold State.memAfterWrite
    split
    · exact .store .refl a v (by assumption)
    · exact .refl
  · rw [memWrite_console, Console.stored_stepsRun]; rfl

theorem kept_noteRead (s : State) (a : Word) : Kept s (s.noteRead a) := by
  rw [State.noteRead_eq]; exact ⟨.refl, rfl, rfl, rfl, rfl⟩

theorem kept_noteR8 (s : State) (r : R8) : Kept s (s.noteR8 r) := by
  rw [State.noteR8_eq]; exact ⟨.refl, rfl, rfl, rfl, rfl⟩

theorem kept_setReg (s : State) (r : Reg8) (v : Byte) : Kept s (s.setReg r v) := ⟨.refl, rfl, rfl, rfl, rfl⟩

theorem kept_setPair (s : State) (hi lo : Reg8) (v : Word) : Kept s (s.setPair hi lo v) := ⟨.refl, rfl, rfl, rfl, rfl⟩

theorem kept_setPC (s : State) (a : Word) : Kept s (s.setPC a) := ⟨.refl, rfl, rfl, rfl, rfl⟩

theorem kept_writeR8 (s : State) (r : R8) (v : Byte) : Kept s (s.writeR8 r v) := by
  unfold State.writeR8
  split
  · exact kept_setReg _ _ _
  · exact kept_memWrite _ _ _

theorem kept_writeR16 (s : State) (p : R16) (v : Word) : Kept s (s.writeR16 p v) := by
  cases p <;> exact ⟨.refl, rfl, rfl, rfl, rfl⟩

theorem kept_writeR16stk (s : State) (p : R16stk) (v : Word) : Kept s (s.writeR16stk p v) := by
  cases p <;> exact ⟨.refl, rfl, rfl, rfl, rfl⟩

theorem kept_postAdjust (s : State) (p : R16mem) : Kept s (s.postAdjust p) := by
  cases p <;> exact ⟨.refl, rfl, rfl, rfl, rfl⟩

theorem kept_setSP (s : State) (v : Word) : Kept s (s.setSP v) := ⟨.refl, rfl, rfl, rfl, rfl⟩

theorem kept_push16 (s : State) (v : Word) : Kept s (s.push16 v) :=
  (((kept_setSP s _).trans (kept_memWrite _ _ _)).trans (kept_setSP _ _)).trans (kept_memWrite _ _ _)

theorem kept_popped (s : State) : Kept s s.popped :=
  ((kept_noteRead s _).trans (kept_noteRead _ _)).trans (kept_setSP _ _)

theorem kept_acc (s : State) (op : AluOp) (v : Byte) : Kept s (s.acc op v) := by
  unfold State.acc
  split <;> exact ⟨.refl, rfl, rfl, rfl, rfl⟩

theorem kept_callTo (s : State) (a : Word) : Kept s (s.callTo a) := (kept_push16 s _).trans (kept_setPC _ _)

theorem kept_ret (s : State) : Kept s s.ret := (kept_popped s).trans (kept_setPC _ _)

theorem kept_jumpIf (s : State) (cc : Cond) (a : Word) : Kept s (s.jumpIf cc a) := by
  unfold State.jumpIf
  split
  · exact kept_setPC _ _
  · exact .refl _

/-- What every instruction keeps. -/
theorem Op.kept (o : Op) (s : State) : Kept s (o.run s) := by
  cases o with
  | ld8 => exact (kept_noteR8 _ _).trans (kept_writeR8 _ _ _)
  | ld8Imm => exact kept_writeR8 _ _ _
  | ld16Imm => exact kept_writeR16 _ _ _
  | storeA => exact (kept_memWrite _ _ _).trans (kept_postAdjust _ _)
  | loadA => exact ((kept_noteRead _ _).trans (kept_setReg _ _ _)).trans (kept_postAdjust _ _)
  | storeAAt => exact kept_memWrite _ _ _
  | loadAAt => exact (kept_noteRead _ _).trans (kept_setReg _ _ _)
  | storeSP => exact (kept_memWrite _ _ _).trans (kept_memWrite _ _ _)
  | pushPair => exact kept_push16 _ _
  | popPair => exact (kept_popped _).trans (kept_writeR16stk _ _ _)
  | accR8 => exact (kept_noteR8 _ _).trans (kept_acc _ _ _)
  | accImm => exact kept_acc _ _ _
  | inc8 => exact ((kept_noteR8 _ _).trans (kept_writeR8 _ _ _)).trans (kept_setReg _ _ _)
  | dec8 => exact ((kept_noteR8 _ _).trans (kept_writeR8 _ _ _)).trans (kept_setReg _ _ _)
  | inc16 => exact kept_writeR16 _ _ _
  | dec16 => exact kept_writeR16 _ _ _
  | rot => exact ((kept_noteR8 _ _).trans (kept_writeR8 _ _ _)).trans (kept_setReg _ _ _)
  | bitTest => exact (kept_noteR8 _ _).trans (kept_setReg _ _ _)
  | bitReset => exact (kept_noteR8 _ _).trans (kept_writeR8 _ _ _)
  | bitSet => exact (kept_noteR8 _ _).trans (kept_writeR8 _ _ _)
  | prefixed b =>
    show Kept s (s.prefixed b)
    unfold State.prefixed
    split
    · exact ((kept_noteR8 _ _).trans (kept_writeR8 _ _ _)).trans (kept_setReg _ _ _)
    · exact (kept_noteR8 _ _).trans (kept_setReg _ _ _)
    · exact (kept_noteR8 _ _).trans (kept_writeR8 _ _ _)
    · exact (kept_noteR8 _ _).trans (kept_writeR8 _ _ _)
  | jumpIf => exact kept_jumpIf _ _ _
  | jumpRelIf => exact kept_jumpIf _ _ _
  | storeAHighC => exact kept_memWrite _ _ _
  | loadAHighC => exact (kept_noteRead _ _).trans (kept_setReg _ _ _)
  | callTo => exact kept_callTo _ _
  | callIf cc a => show Kept s (s.callIf cc a); unfold State.callIf; split; exacts [kept_callTo _ _, .refl _]
  | ret => exact kept_ret _
  | retIf cc => show Kept s (s.retIf cc); unfold State.retIf; split; exacts [kept_ret _, .refl _]
  | reti => exact (kept_popped s).trans ⟨.refl, rfl, rfl, rfl, rfl⟩
  | stop => show Kept s s.stop; unfold State.stop; split <;> exact ⟨.refl, rfl, rfl, rfl, rfl⟩
  | nop => exact .refl _
  | _ => exact ⟨.refl, rfl, rfl, rfl, rfl⟩

/-! ### F's low nibble -/

/-- A register write leaves F's low nibble zero (R21). -/
theorem set_flagLow {r : Regs} (h : r.f &&& 0x0F = 0) (n : Reg8) (v : Byte) : (r.set n v).f &&& 0x0F = 0 := by
  cases n
  case f =>
    show (v &&& 0xF0) &&& 0x0F = 0
    rw [BitVec.and_assoc]
    exact BitVec.and_zero
  all_goals exact h

theorem setReg_flagLow {s : State} (h : s.regs.f &&& 0x0F = 0) (n : Reg8) (v : Byte) :
    (s.setReg n v).regs.f &&& 0x0F = 0 := set_flagLow h n v

theorem writeR8_flagLow {s : State} (h : s.regs.f &&& 0x0F = 0) (r : R8) (v : Byte) :
    (s.writeR8 r v).regs.f &&& 0x0F = 0 := by
  unfold State.writeR8
  split
  · exact set_flagLow h _ _
  · rw [State.memWrite_regs]; exact h

theorem setPair_flagLow {s : State} (h : s.regs.f &&& 0x0F = 0) (hi lo : Reg8) (v : Word) :
    (s.setPair hi lo v).regs.f &&& 0x0F = 0 := set_flagLow (set_flagLow h _ _) _ _

@[simp] theorem State.noteR8_regs (s : State) (r : R8) : (s.noteR8 r).regs = s.regs := by simp [State.noteR8_eq]

theorem writeR16_flagLow {s : State} (h : s.regs.f &&& 0x0F = 0) (p : R16) (v : Word) :
    (s.writeR16 p v).regs.f &&& 0x0F = 0 := by
  cases p <;> first | exact setPair_flagLow h _ _ _ | exact h

theorem postAdjust_flagLow {s : State} (h : s.regs.f &&& 0x0F = 0) (p : R16mem) :
    (s.postAdjust p).regs.f &&& 0x0F = 0 := by
  cases p <;> first | exact setPair_flagLow h _ _ _ | exact h

/-- Every instruction leaves F's low nibble zero (R21). -/
theorem Op.flagLow (o : Op) {s : State} (hf : s.regs.f &&& 0x0F = 0) : (o.run s).regs.f &&& 0x0F = 0 := by
  have hn : ∀ r, (s.noteR8 r).regs.f &&& 0x0F = 0 := fun r => by rw [State.noteR8_regs]; exact hf
  have hr : ∀ a, (s.noteRead a).regs.f &&& 0x0F = 0 := fun a => by rw [State.noteRead_regs]; exact hf
  have hw : ∀ a v, (s.memWrite a v).regs.f &&& 0x0F = 0 := fun a v => by rw [State.memWrite_regs]; exact hf
  have hacc : ∀ (u : State), u.regs.f &&& 0x0F = 0 → ∀ op v, (u.acc op v).regs.f &&& 0x0F = 0 := fun u hu op v => by
    unfold State.acc
    split
    · exact setReg_flagLow (setReg_flagLow hu _ _) _ _
    · exact setReg_flagLow hu _ _
  have hj : ∀ cc a, (s.jumpIf cc a).regs.f &&& 0x0F = 0 := fun cc a => by unfold State.jumpIf; split <;> exact hf
  cases o with
  | ld8 => exact writeR8_flagLow (hn _) _ _
  | ld8Imm => exact writeR8_flagLow hf _ _
  | ld16Imm => exact writeR16_flagLow hf _ _
  | storeA => exact postAdjust_flagLow (hw _ _) _
  | loadA => exact postAdjust_flagLow (setReg_flagLow (hr _) _ _) _
  | storeAAt => exact hw _ _
  | loadAAt => exact setReg_flagLow (hr _) _ _
  | storeSP a =>
    show (s.storeSP a).regs.f &&& 0x0F = 0
    rw [State.storeSP, State.memWrite_regs]
    exact hw _ _
  | pushPair p =>
    show (s.pushPair p).regs.f &&& 0x0F = 0
    rw [State.pushPair, State.push16_regs]
    exact hf
  | popPair p =>
    have hp : s.popped.regs.f &&& 0x0F = 0 := by rw [State.popped_regs]; exact hf
    cases p <;> exact setPair_flagLow hp _ _ _
  | accR8 => exact hacc _ (hn _) _ _
  | accImm => exact hacc _ hf _ _
  | inc8 => exact setReg_flagLow (writeR8_flagLow (hn _) _ _) _ _
  | dec8 => exact setReg_flagLow (writeR8_flagLow (hn _) _ _) _ _
  | daa => exact setReg_flagLow (setReg_flagLow hf _ _) _ _
  | cpl => exact setReg_flagLow (setReg_flagLow hf _ _) _ _
  | scf => exact setReg_flagLow hf _ _
  | ccf => exact setReg_flagLow hf _ _
  | inc16 => exact writeR16_flagLow hf _ _
  | dec16 => exact writeR16_flagLow hf _ _
  | addHL => exact setReg_flagLow (setPair_flagLow hf _ _ _) _ _
  | addSP e => exact setReg_flagLow (s := s.setSP (addSPResult s.sp e).1) hf _ _
  | ldHLSP => exact setReg_flagLow (setPair_flagLow hf _ _ _) _ _
  | rotA => exact setReg_flagLow (setReg_flagLow hf _ _) _ _
  | rot => exact setReg_flagLow (writeR8_flagLow (hn _) _ _) _ _
  | bitTest => exact setReg_flagLow (hn _) _ _
  | bitReset => exact writeR8_flagLow (hn _) _ _
  | bitSet => exact writeR8_flagLow (hn _) _ _
  | prefixed b =>
    show (s.prefixed b).regs.f &&& 0x0F = 0
    unfold State.prefixed
    split
    · exact setReg_flagLow (writeR8_flagLow (hn _) _ _) _ _
    · exact setReg_flagLow (hn _) _ _
    · exact writeR8_flagLow (hn _) _ _
    · exact writeR8_flagLow (hn _) _ _
  | jumpIf => exact hj _ _
  | jumpRelIf => exact hj _ _
  | storeAHighC => exact hw _ _
  | loadAHighC => exact setReg_flagLow (hr _) _ _
  | callTo a => show (s.push16 s.pc).regs.f &&& 0x0F = 0; rw [State.push16_regs]; exact hf
  | callIf cc a =>
    show (s.callIf cc a).regs.f &&& 0x0F = 0
    unfold State.callIf
    split
    · show (s.push16 s.pc).regs.f &&& 0x0F = 0
      rw [State.push16_regs]; exact hf
    · exact hf
  | ret => show s.popped.regs.f &&& 0x0F = 0; rw [State.popped_regs]; exact hf
  | retIf cc =>
    show (s.retIf cc).regs.f &&& 0x0F = 0
    unfold State.retIf
    split
    · show s.popped.regs.f &&& 0x0F = 0
      rw [State.popped_regs]; exact hf
    · exact hf
  | reti => show s.popped.regs.f &&& 0x0F = 0; rw [State.popped_regs]; exact hf
  | stop => show s.stop.regs.f &&& 0x0F = 0; unfold State.stop; split <;> exact hf
  | _ => exact hf

/-! ### The control state -/

/-- The operations that write the interrupt and control state (R24 to R28). -/
def Op.writesControl : Op → Bool
  | .reti => true
  | .halt => true
  | .stop => true
  | .di => true
  | .ei => true
  | .illegal _ => true
  | _ => false

theorem control_same {s t : State} (h : t = { s with regs := t.regs, sp := t.sp, pc := t.pc, mem := t.mem, console := t.console }) :
    ControlEq s t := by
  rw [h]
  exact ⟨rfl, rfl, rfl, rfl, rfl, rfl, rfl, rfl⟩

theorem control_noteRead (s : State) (a : Word) : ControlEq s (s.noteRead a) := (quiet_noteRead s [] a).control

theorem control_noteR8 (s : State) (r : R8) : ControlEq s (s.noteR8 r) := (quiet_noteR8 s [] r).control

theorem control_setReg (s : State) (r : Reg8) (v : Byte) : ControlEq s (s.setReg r v) := control_same rfl

theorem control_setPC (s : State) (a : Word) : ControlEq s (s.setPC a) := control_same rfl

theorem control_writeR8 (s : State) (r : R8) (v : Byte) : ControlEq s (s.writeR8 r v) := by
  unfold State.writeR8
  split
  · exact control_setReg _ _ _
  · exact control_memWrite _ _ _

theorem control_writeR16 (s : State) (p : R16) (v : Word) : ControlEq s (s.writeR16 p v) := by
  cases p <;> exact control_same rfl

theorem control_writeR16stk (s : State) (p : R16stk) (v : Word) : ControlEq s (s.writeR16stk p v) := by
  cases p <;> exact control_same rfl

theorem control_postAdjust (s : State) (p : R16mem) : ControlEq s (s.postAdjust p) := by
  cases p <;> exact control_same rfl

theorem control_acc (s : State) (op : AluOp) (v : Byte) : ControlEq s (s.acc op v) := by
  unfold State.acc
  split <;> exact control_same rfl

theorem control_callTo (s : State) (a : Word) : ControlEq s (s.callTo a) := (control_push16 s _).trans (control_setPC _ _)

theorem control_ret (s : State) : ControlEq s s.ret := (control_popped s).trans (control_setPC _ _)

theorem control_jumpIf (s : State) (cc : Cond) (a : Word) : ControlEq s (s.jumpIf cc a) := by
  unfold State.jumpIf
  split
  · exact control_setPC _ _
  · exact .refl _

/-- Every other operation leaves it as it was. -/
theorem Op.control (o : Op) (s : State) (h : o.writesControl = false) : ControlEq s (o.run s) := by
  cases o with
  | ld8 => exact (control_noteR8 _ _).trans (control_writeR8 _ _ _)
  | ld8Imm => exact control_writeR8 _ _ _
  | ld16Imm => exact control_writeR16 _ _ _
  | storeA => exact (control_memWrite _ _ _).trans (control_postAdjust _ _)
  | loadA => exact ((control_noteRead _ _).trans (control_setReg _ _ _)).trans (control_postAdjust _ _)
  | storeAAt => exact control_memWrite _ _ _
  | loadAAt => exact (control_noteRead _ _).trans (control_setReg _ _ _)
  | storeAHighC => exact control_memWrite _ _ _
  | loadAHighC => exact (control_noteRead _ _).trans (control_setReg _ _ _)
  | storeSP => exact (control_memWrite _ _ _).trans (control_memWrite _ _ _)
  | pushPair => exact control_push16 _ _
  | popPair => exact (control_popped _).trans (control_writeR16stk _ _ _)
  | accR8 => exact (control_noteR8 _ _).trans (control_acc _ _ _)
  | accImm => exact control_acc _ _ _
  | inc8 => exact ((control_noteR8 _ _).trans (control_writeR8 _ _ _)).trans (control_setReg _ _ _)
  | dec8 => exact ((control_noteR8 _ _).trans (control_writeR8 _ _ _)).trans (control_setReg _ _ _)
  | inc16 => exact control_writeR16 _ _ _
  | dec16 => exact control_writeR16 _ _ _
  | rot => exact ((control_noteR8 _ _).trans (control_writeR8 _ _ _)).trans (control_setReg _ _ _)
  | bitTest => exact (control_noteR8 _ _).trans (control_setReg _ _ _)
  | bitReset => exact (control_noteR8 _ _).trans (control_writeR8 _ _ _)
  | bitSet => exact (control_noteR8 _ _).trans (control_writeR8 _ _ _)
  | prefixed b =>
    show ControlEq s (s.prefixed b)
    unfold State.prefixed
    split
    · exact ((control_noteR8 _ _).trans (control_writeR8 _ _ _)).trans (control_setReg _ _ _)
    · exact (control_noteR8 _ _).trans (control_setReg _ _ _)
    · exact (control_noteR8 _ _).trans (control_writeR8 _ _ _)
    · exact (control_noteR8 _ _).trans (control_writeR8 _ _ _)
  | jumpIf => exact control_jumpIf _ _ _
  | jumpRelIf => exact control_jumpIf _ _ _
  | callTo => exact control_callTo _ _
  | callIf cc a => show ControlEq s (s.callIf cc a); unfold State.callIf; split; exacts [control_callTo _ _, .refl _]
  | ret => exact control_ret _
  | retIf cc => show ControlEq s (s.retIf cc); unfold State.retIf; split; exacts [control_ret _, .refl _]
  | nop => exact .refl _
  | reti => cases h
  | halt => cases h
  | stop => cases h
  | di => cases h
  | ei => cases h
  | illegal => cases h
  | daa => exact control_same rfl
  | cpl => exact control_same rfl
  | scf => exact control_same rfl
  | ccf => exact control_same rfl
  | addHL => exact control_same rfl
  | addSP => exact control_same rfl
  | ldHLSP => exact control_same rfl
  | ldSPHL => exact control_same rfl
  | rotA => exact control_same rfl
  | jumpTo => exact control_setPC _ _
  | jumpHL => exact control_setPC _ _
  | jumpRel => exact control_setPC _ _

end Sys2Proof.Machine
end

