-- ==== Sys2Proof/Laws/Launch.lean ====
section
/-! SUPPORT. The launch: what an accepted image puts behind the bus, the header checks as they are stated, and that the memory
of a launched machine is canonical and lists only addresses at which the bus owns a byte. -/

namespace Sys2Proof.Machine

/-- The state a launch begins in, its memory tabulated below `n`. -/
theorem cell_tabulate (p : Params) (f : Nat → Byte) (n : Nat) (a : Word) :
    (State.atLaunch p (Memory.tabulate f n [])).cell a = if a.toNat < n then f a.toNat else 0 :=
  Memory.read_tabulate f n (by simp) a.toNat

/-- Every byte of the address space behind an accepted launch. -/
theorem cell_launched (cfg : LaunchConfig) (image : List Byte) (a : Word) :
    (State.atLaunch cfg.params (Memory.tabulate (initialByte cfg image) 0x10000 [])).cell a =
      initialByte cfg image a.toNat := by
  rw [cell_tabulate, if_pos a.isLt]

theorem launch_accepted {cfg : LaunchConfig} {image : List Byte} (h : refusalOf cfg.logo (some image) = none) :
    launch cfg (some image) =
      .ok (State.atLaunch cfg.params (Memory.tabulate (initialByte cfg image) 0x10000 [])) := by
  unfold launch; rw [h]

theorem launch_refused {cfg : LaunchConfig} {image : Option (List Byte)} {r : LaunchRefusal}
    (h : refusalOf cfg.logo image = some r) : launch cfg image = .error r := by
  unfold launch; rw [h]

theorem headerSum_eq_foldl (image : List Byte) (n a : Nat) (x : Byte) :
    headerSum image n a x = (List.range n).foldl (fun x k => x - image.getD (a + k) 0 - 1) x := by
  induction n generalizing a x with
  | zero => rfl
  | succ n ih =>
    rw [headerSum, ih, List.range_succ_eq_map, List.foldl_cons, List.foldl_map]
    simp only [imageByte, Nat.add_zero]
    congr 1
    funext x k
    rw [show a + 1 + k = a + (k + 1) by omega]

/-- The logo check byte by byte (R169). -/
theorem imageLogo_eq_iff {image logo : List Byte} (hl : logo.length = 48) (h : 0x0150 ≤ image.length) :
    imageLogo image = logo ↔ ∀ k, k < 48 → image.getD (0x0104 + k) 0 = logo.getD k 0 := by
  unfold imageLogo
  rw [List.ext_getElem_iff]
  simp only [List.length_take, List.length_drop, hl]
  constructor
  · rintro ⟨-, h2⟩ k hk
    have := h2 k (by omega) hk
    rw [List.getD_eq_getElem _ _ (by omega), List.getD_eq_getElem _ _ (by omega)]
    simpa using this
  · intro h2
    refine ⟨by omega, fun k h1 hk => ?_⟩
    have := h2 k hk
    rw [List.getD_eq_getElem _ _ (by omega), List.getD_eq_getElem _ _ (by omega)] at this
    simpa using this

/-- What a launch lists is an address at which the bus owns a byte. -/
theorem backed_of_initialByte {cfg : LaunchConfig} {image : List Byte} {a : Nat} (h : initialByte cfg image a ≠ 0) :
    backed (BitVec.ofNat 16 a) = true := by
  unfold initialByte at h
  unfold backed
  cases hk : (Region.of (BitVec.ofNat 16 a)).kind <;> rw [hk] at h <;> simp_all

end Sys2Proof.Machine
end

