-- ==== Sys2Proof/Laws/Step.lean ====
section
/-! SUPPORT. What a step can do, said once: `step_cases` inverts `step` into the wait of a halted core and the execution of one
instruction, and `step_kept` and `written_step` say what every step keeps. -/

namespace Sys2Proof.Machine

theorem step_of_endOfRun {s : State} {f : Fault} (h : s.endOfRun = some f) : step s = .fault f := by
  unfold step State.stepOrEnd
  rw [h]

theorem step_of_running {s : State} (h : s.endOfRun = none) : step s = s.runStep := by
  unfold step State.stepOrEnd
  rw [h]

theorem kept_fetched (s : State) (n : Nat) : Kept s (s.fetched n) := by
  induction n generalizing s with
  | zero => exact .refl s
  | succ n ih => exact ((kept_noteRead _ _).trans (kept_setPC _ _)).trans (ih _)

theorem kept_traced (s : State) : Kept s s.traced := ⟨.refl, rfl, rfl, rfl, rfl⟩

theorem kept_service (s : State) (i : IrqSource) : Kept s (s.service i) := by
  have h1 : Kept s ((s.setIME false).setEiCount 0) := ⟨.refl, rfl, rfl, rfl, rfl⟩
  exact (h1.trans (kept_push16 _ s.pc)).trans ⟨.store .refl addrIF _ (by decide), rfl, rfl, rfl, rfl⟩

theorem kept_eiPromote (s : State) : Kept s s.eiPromote := by
  unfold State.eiPromote
  split <;> exact ⟨.refl, rfl, rfl, rfl, rfl⟩

theorem kept_wake (s : State) : Kept s s.wake := by
  unfold State.wake
  split <;> exact ⟨.refl, rfl, rfl, rfl, rfl⟩

theorem kept_interruptCheck (s : State) : Kept s s.interruptCheck := by
  unfold State.interruptCheck
  split
  · exact (kept_wake s).trans (kept_service _ _)
  · exact kept_wake s

/-- What the EI promotion and the interrupt check keep. -/
theorem kept_beginStep (s : State) : Kept s s.beginStep := (kept_eiPromote s).trans (kept_interruptCheck _)

/-! ### The interrupt check -/

/-- The requests the check tests are those of R151. -/
theorem deliverable_eq (s : State) : s.deliverable = s.pending := rfl

theorem pending_eiPromote (s : State) : s.eiPromote.pending = s.pending := by
  unfold State.eiPromote
  split <;> rfl

theorem pending_mask (s : State) : s.pending &&& 0x1F = s.pending := by
  unfold State.pending
  rw [BitVec.and_assoc]
  rfl

/-- A byte with no bit above bit 4 has no lowest source exactly when it is 0 (R155). -/
theorem lowestSource_eq_none_iff : ∀ p : Byte, p &&& 0x1F = p → (lowestSource p = none ↔ p = 0) := by
  intro p
  obtain ⟨k⟩ := p
  revert k
  decide +kernel

/-- The lowest source is a pending one, with none pending below it (R155). -/
theorem lowestSource_spec : ∀ (p : Byte) (i : IrqSource), lowestSource p = some i →
    ∃ n : Nat, n < 5 ∧ i.mask = 1#8 <<< n ∧ i.vector = BitVec.ofNat 16 (0x40 + 8 * n) ∧ p.getLsbD n = true ∧
      ∀ j, j < n → p.getLsbD j = false := by
  intro p i h
  unfold lowestSource at h
  split at h
  · injection h with h; subst h
    exact ⟨0, by decide, by decide, by decide, by assumption, by simp⟩
  · split at h
    · injection h with h; subst h
      refine ⟨1, by decide, by decide, by decide, by assumption, fun j hj => ?_⟩
      interval_cases j; simp_all
    · split at h
      · injection h with h; subst h
        refine ⟨2, by decide, by decide, by decide, by assumption, fun j hj => ?_⟩
        interval_cases j <;> simp_all
      · split at h
        · injection h with h; subst h
          refine ⟨3, by decide, by decide, by decide, by assumption, fun j hj => ?_⟩
          interval_cases j <;> simp_all
        · split at h
          · injection h with h; subst h
            refine ⟨4, by decide, by decide, by decide, by assumption, fun j hj => ?_⟩
            interval_cases j <;> simp_all
          · cases h

/-- What the interrupt check does: the wake-up, and one service exactly when IME is set and a request is deliverable (R154). -/
theorem interruptCheck_cases (s : State) :
    (s.ime = true ∧ s.pending ≠ 0 ∧ ∃ i, lowestSource s.pending = some i ∧ s.interruptCheck = s.wake.service i) ∨
      ((s.ime = false ∨ s.pending = 0) ∧ s.interruptCheck = s.wake) := by
  unfold State.interruptCheck
  have hn := lowestSource_eq_none_iff s.pending (pending_mask s)
  cases hi : s.ime with
  | false => exact .inr ⟨.inl rfl, rfl⟩
  | true =>
    cases hl : lowestSource s.pending with
    | none => exact .inr ⟨.inr (hn.1 hl), rfl⟩
    | some i => exact .inl ⟨rfl, fun h => (by rw [hn.2 h] at hl; cases hl), i, rfl, rfl⟩

/-- The wake-up touches `halted` alone (R153). -/
theorem wake_eq (s : State) : s.wake = { s with halted := s.halted && decide (s.pending = 0) } := by
  unfold State.wake
  split
  · rename_i h
    simp [h]
  · rename_i h
    rw [decide_eq_false h, Bool.and_false]
    rfl

/-- The EI promotion touches IME and the pending request alone (R152). -/
theorem eiPromote_eq (s : State) :
    s.eiPromote = { s with ime := s.ime || decide (s.eiCount = 1), eiCount := if s.eiCount = 2 then 1 else 0 } := by
  unfold State.eiPromote
  split <;> rename_i h
  · simp [h]
    rw [← h]
  · simp [h, State.setEiCount, State.setIME]
  · simp [h, State.setEiCount]

theorem control_fetched (s : State) (n : Nat) : ControlEq s (s.fetched n) := by
  induction n generalizing s with
  | zero => exact .refl s
  | succ n ih => exact ((control_noteRead _ _).trans (control_setPC _ _)).trans (ih _)

theorem control_traced (s : State) : ControlEq s s.traced := control_same rfl

/-- Fetching moves PC behind the bytes and changes nothing else but the warnings (R10). -/
theorem fetched_eq (s : State) (n : Nat) :
    (s.fetched n).regs = s.regs ∧ (s.fetched n).sp = s.sp ∧ (s.fetched n).mem = s.mem ∧
      (s.fetched n).pc = s.pc + BitVec.ofNat 16 n := by
  induction n generalizing s with
  | zero => exact ⟨rfl, rfl, rfl, by simp [State.fetched]⟩
  | succ n ih =>
    obtain ⟨h1, h2, h3, h4⟩ := ih ((s.noteRead s.pc).setPC (s.pc + 1))
    refine ⟨h1.trans (by simp), h2.trans (by simp), h3.trans (by simp), h4.trans ?_⟩
    rw [State.setPC_pc]
    apply BitVec.eq_of_toNat_eq
    have h1 : (1 : Word).toNat = 1 := rfl
    simp only [BitVec.toNat_add, BitVec.toNat_ofNat, h1]
    omega

/-- The state that a step's instruction executes on. -/
abbrev State.atExec (s : State) : State :=
  s.countStep.beginStep.traced.fetched s.countStep.beginStep.lengthAtPC

/-- A step that gives a next state: the run had not ended, and it waited, or it executed the instruction at PC. -/
theorem step_cases {s t : State} (h : step s = .next t) :
    s.endOfRun = none ∧
      (s.countStep.beginStep.halted = true ∧ t = s.countStep.beginStep.endStep ∨
        s.countStep.beginStep.halted = false ∧
          ∃ o : Op, (∀ u, exec s.countStep.beginStep.instrAtPC u = .next (o.run u)) ∧
            (o = .reti → s.countStep.beginStep.instrAtPC = .reti) ∧ t = (o.run s.atExec).endStep) := by
  cases he : s.endOfRun with
  | some f => rw [step_of_endOfRun he] at h; cases h
  | none =>
    refine ⟨rfl, ?_⟩
    rw [step_of_running he] at h
    unfold State.runStep at h
    cases hh : s.countStep.beginStep.halted with
    | true =>
      simp only [hh, if_true] at h
      injection h with h
      exact .inl ⟨rfl, h.symm⟩
    | false =>
      obtain ⟨o, ho, hr, -⟩ := exec_eq_run s.countStep.beginStep.instrAtPC
      simp only [hh, ho] at h
      injection h with h
      exact .inr ⟨rfl, o, ho, hr, h.symm⟩

/-- A running core always takes its step (R149). -/
theorem step_total {s : State} (h : s.endOfRun = none) : ∃ t, step s = .next t := by
  rw [step_of_running h]
  unfold State.runStep
  simp only
  split
  · exact ⟨_, rfl⟩
  · obtain ⟨o, ho, -⟩ := exec_eq_run s.countStep.beginStep.instrAtPC
    rw [ho]
    exact ⟨_, rfl⟩

theorem written_timerAdvance (s : State) : Written s.mem s.timerAdvance.mem := by
  unfold State.timerAdvance
  simp only
  split
  · unfold State.tickTIMA
    split
    · exact .store (.store .refl addrTIMA _ (by decide)) addrIF _ (by decide)
    · exact .store .refl addrTIMA _ (by decide)
  · exact .refl

/-- The fields the timer advance leaves, and its counters (R160). -/
theorem timerAdvance_fields (s : State) :
    s.timerAdvance = { s with
      counter := (s.counter + 1) % 2 ^ s.params.counterBits
      lastTick := s.timerAdvance.lastTick
      mem := s.timerAdvance.mem } ∧
    (s.timerAdvance.lastTick = s.lastTick ∨ s.timerAdvance.lastTick = (s.counter + 1) % 2 ^ s.params.counterBits) := by
  unfold State.timerAdvance
  simp only
  split
  · unfold State.tickTIMA
    split <;> exact ⟨rfl, .inr rfl⟩
  · exact ⟨rfl, .inl rfl⟩

/-- The end of a step is the timer advance, or nothing behind a fault (R149, R145). -/
theorem endStep_cases (s : State) : (s.fault = none ∧ s.endStep = s.timerAdvance) ∨ (s.fault ≠ none ∧ s.endStep = s) := by
  unfold State.endStep
  cases h : s.fault with
  | none => exact .inl ⟨rfl, rfl⟩
  | some f => exact .inr ⟨nofun, rfl⟩

theorem written_endStep (s : State) : Written s.mem s.endStep.mem := by
  rcases endStep_cases s with ⟨-, h⟩ | ⟨-, h⟩ <;> rw [h]
  · exact written_timerAdvance s
  · exact .refl

/-- Whatever a step does is kept up to its end, which the timer advance then closes. -/
theorem step_kept {s t : State} (h : step s = .next t) : ∃ u, Kept s.countStep u ∧ t = u.endStep := by
  obtain ⟨-, ⟨-, h⟩ | ⟨-, o, -, -, h⟩⟩ := step_cases h
  · exact ⟨_, kept_beginStep _, h⟩
  · exact ⟨_, (((kept_beginStep _).trans (kept_traced _)).trans (kept_fetched _ _)).trans (o.kept _), h⟩

/-- A step stores at writable addresses only. -/
theorem written_step {s t : State} (h : step s = .next t) : Written s.mem t.mem := by
  obtain ⟨u, k, rfl⟩ := step_kept h
  exact k.mem.trans (written_endStep u)

end Sys2Proof.Machine
end

