-- ==== Sys2Proof/Laws/Logs.lean ====
section
/-! SUPPORT. Two states that differ in the trace, the echoed bytes and the warnings alone, and that every operation of a step
keeps them so. -/

namespace Sys2Proof.Machine

/-- The two records agree but for the logs that nothing reads. -/
structure ConsoleEq (k l : Console) : Prop where
  wordBuffer   : l.wordBuffer = k.wordBuffer
  endRequested : l.endRequested = k.endRequested
  stepsRun     : l.stepsRun = k.stepsRun

/-- The second state is the first with other logs. -/
def LogsOnly (s u : State) : Prop := ∃ k, ConsoleEq s.console k ∧ u = s.setConsole k

theorem LogsOnly.of_withoutLogs {s u : State} (h : s.withoutLogs = u.withoutLogs) : LogsOnly s u := by
  cases s; rename_i r1 sp1 pc1 i1 e1 h1 st1 f1 c1 l1 m1 k1 p1
  cases u; rename_i r2 sp2 pc2 i2 e2 h2 st2 f2 c2 l2 m2 k2 p2
  simp only [State.withoutLogs, State.mk.injEq, Console.mk.injEq] at h
  obtain ⟨rfl, rfl, rfl, rfl, rfl, rfl, rfl, rfl, rfl, rfl, rfl, ⟨h1, -, h2, -, -, h3⟩, rfl⟩ := h
  exact ⟨k2, ⟨h1.symm, h2.symm, h3.symm⟩, rfl⟩

theorem LogsOnly.withoutLogs {s u : State} (h : LogsOnly s u) : s.withoutLogs = u.withoutLogs := by
  obtain ⟨k, ⟨h1, h2, h3⟩, rfl⟩ := h
  simp only [State.withoutLogs, State.setConsole, h1, h2, h3]

theorem ConsoleEq.warned {k l : Console} (h : ConsoleEq k l) (ws : List Warning) : ConsoleEq (k.warned ws) (l.warned ws) :=
  ⟨h.wordBuffer, h.endRequested, h.stepsRun⟩

theorem ConsoleEq.serial {k l : Console} (h : ConsoleEq k l) (b : Byte) : ConsoleEq (k.serial b) (l.serial b) := by
  unfold Console.serial
  split
  · exact ⟨rfl, h.endRequested, h.stepsRun⟩
  · refine ⟨by simp only [h.wordBuffer], ?_, h.stepsRun⟩
    simp only [h.wordBuffer, h.endRequested]

theorem ConsoleEq.stored {k l : Console} (h : ConsoleEq k l) (a : Word) (v sb : Byte) :
    ConsoleEq (k.stored a v sb) (l.stored a v sb) := by
  unfold Console.stored
  split
  · exact h.serial sb
  · exact h

namespace LogsOnly

variable {s u : State}

theorem noteRead (h : LogsOnly s u) (a : Word) : LogsOnly (s.noteRead a) (u.noteRead a) := by
  obtain ⟨k, hk, rfl⟩ := h
  rw [State.noteRead_eq, State.noteRead_eq]
  exact ⟨_, hk.warned _, rfl⟩

theorem noteR8 (h : LogsOnly s u) (r : R8) : LogsOnly (s.noteR8 r) (u.noteR8 r) := by
  obtain ⟨k, hk, rfl⟩ := h
  unfold State.noteR8
  split
  · exact ⟨k, hk, rfl⟩
  · exact LogsOnly.noteRead ⟨k, hk, rfl⟩ s.hl

theorem memWrite (h : LogsOnly s u) (a : Word) (v : Byte) : LogsOnly (s.memWrite a v) (u.memWrite a v) := by
  obtain ⟨k, hk, rfl⟩ := h
  rw [State.memWrite_eq, State.memWrite_eq]
  exact ⟨_, (hk.warned _).stored _ _ _, rfl⟩

theorem setReg (h : LogsOnly s u) (r : Reg8) (v : Byte) : LogsOnly (s.setReg r v) (u.setReg r v) := by
  obtain ⟨k, hk, rfl⟩ := h
  exact ⟨k, hk, rfl⟩

theorem setFlags (h : LogsOnly s u) (a b c d : Bool) : LogsOnly (s.setFlags a b c d) (u.setFlags a b c d) :=
  h.setReg .f _

theorem setPair (h : LogsOnly s u) (hi lo : Reg8) (v : Word) : LogsOnly (s.setPair hi lo v) (u.setPair hi lo v) := by
  obtain ⟨k, hk, rfl⟩ := h
  exact ⟨k, hk, rfl⟩

theorem setPC (h : LogsOnly s u) (v : Word) : LogsOnly (s.setPC v) (u.setPC v) := by
  obtain ⟨k, hk, rfl⟩ := h
  exact ⟨k, hk, rfl⟩

theorem setSP (h : LogsOnly s u) (v : Word) : LogsOnly (s.setSP v) (u.setSP v) := by
  obtain ⟨k, hk, rfl⟩ := h
  exact ⟨k, hk, rfl⟩

theorem setCell (h : LogsOnly s u) (a : Word) (v : Byte) : LogsOnly (s.setCell a v) (u.setCell a v) := by
  obtain ⟨k, hk, rfl⟩ := h
  exact ⟨k, hk, rfl⟩

theorem writeR8 (h : LogsOnly s u) (r : R8) (v : Byte) : LogsOnly (s.writeR8 r v) (u.writeR8 r v) := by
  obtain ⟨k, hk, rfl⟩ := h
  unfold State.writeR8
  split
  · exact ⟨k, hk, rfl⟩
  · exact LogsOnly.memWrite ⟨k, hk, rfl⟩ s.hl v

theorem writeR16 (h : LogsOnly s u) (p : R16) (v : Word) : LogsOnly (s.writeR16 p v) (u.writeR16 p v) := by
  obtain ⟨k, hk, rfl⟩ := h
  cases p <;> exact ⟨k, hk, rfl⟩

theorem writeR16stk (h : LogsOnly s u) (p : R16stk) (v : Word) : LogsOnly (s.writeR16stk p v) (u.writeR16stk p v) := by
  obtain ⟨k, hk, rfl⟩ := h
  cases p <;> exact ⟨k, hk, rfl⟩

theorem postAdjust (h : LogsOnly s u) (p : R16mem) : LogsOnly (s.postAdjust p) (u.postAdjust p) := by
  obtain ⟨k, hk, rfl⟩ := h
  cases p <;> exact ⟨k, hk, rfl⟩

theorem acc (h : LogsOnly s u) (op : AluOp) (v : Byte) : LogsOnly (s.acc op v) (u.acc op v) := by
  obtain ⟨k, hk, rfl⟩ := h
  unfold State.acc
  split <;> exact ⟨k, hk, rfl⟩

theorem push16 (h : LogsOnly s u) (v : Word) : LogsOnly (s.push16 v) (u.push16 v) := by
  obtain ⟨k, hk, rfl⟩ := h
  have h : LogsOnly s (s.setConsole k) := ⟨k, hk, rfl⟩
  exact (((h.setSP (s.sp - 1)).memWrite (s.sp - 1) v.hiByte).setSP (s.sp - 2)).memWrite (s.sp - 2) v.loByte

theorem popped (h : LogsOnly s u) : LogsOnly s.popped u.popped := by
  obtain ⟨k, hk, rfl⟩ := h
  have h : LogsOnly s (s.setConsole k) := ⟨k, hk, rfl⟩
  exact ((h.noteRead s.sp).noteRead (s.sp + 1)).setSP (s.sp + 2)

theorem callTo (h : LogsOnly s u) (a : Word) : LogsOnly (s.callTo a) (u.callTo a) := by
  obtain ⟨k, hk, rfl⟩ := h
  have h : LogsOnly s (s.setConsole k) := ⟨k, hk, rfl⟩
  exact (h.push16 s.pc).setPC a

theorem ret (h : LogsOnly s u) : LogsOnly s.ret u.ret := by
  obtain ⟨k, hk, rfl⟩ := h
  have h : LogsOnly s (s.setConsole k) := ⟨k, hk, rfl⟩
  exact h.popped.setPC s.popValue

theorem jumpIf (h : LogsOnly s u) (cc : Cond) (a : Word) : LogsOnly (s.jumpIf cc a) (u.jumpIf cc a) := by
  obtain ⟨k, hk, rfl⟩ := h
  have hc : (s.setConsole k).cond cc = s.cond cc := rfl
  unfold State.jumpIf
  rw [hc]
  split <;> exact ⟨k, hk, rfl⟩

/-- Every instruction keeps states that differ in the logs alone so. -/
theorem run (h : LogsOnly s u) (o : Op) : LogsOnly (o.run s) (o.run u) := by
  obtain ⟨k, hk, rfl⟩ := h
  have h : LogsOnly s (s.setConsole k) := ⟨k, hk, rfl⟩
  cases o with
  | ld8 dst r => exact (h.noteR8 r).writeR8 dst (s.readR8 r)
  | ld8Imm dst n => exact h.writeR8 dst n
  | ld16Imm p v => exact h.writeR16 p v
  | storeA p => exact (h.memWrite (s.memAddr p) (s.reg .a)).postAdjust p
  | loadA p => exact ((h.noteRead (s.memAddr p)).setReg .a (s.memRead (s.memAddr p))).postAdjust p
  | storeAAt a => exact h.memWrite a (s.reg .a)
  | loadAAt a => exact (h.noteRead a).setReg .a (s.memRead a)
  | storeAHighC => exact h.memWrite (highPage (s.reg .c)) (s.reg .a)
  | loadAHighC => exact (h.noteRead (highPage (s.reg .c))).setReg .a (s.memRead (highPage (s.reg .c)))
  | storeSP a => exact (h.memWrite a s.sp.loByte).memWrite (a + 1) s.sp.hiByte
  | pushPair p => exact h.push16 (s.readR16stk p)
  | popPair p => exact h.popped.writeR16stk p s.popValue
  | accR8 op r => exact (h.noteR8 r).acc op (s.readR8 r)
  | accImm op n => exact h.acc op n
  | inc8 r => exact ((h.noteR8 r).writeR8 r _).setReg .f _
  | dec8 r => exact ((h.noteR8 r).writeR8 r _).setReg .f _
  | inc16 p => exact h.writeR16 p (s.readR16 p + 1)
  | dec16 p => exact h.writeR16 p (s.readR16 p - 1)
  | rot op r => exact ((h.noteR8 r).writeR8 r _).setFlags _ _ _ _
  | bitTest b r => exact (h.noteR8 r).setFlags _ _ _ _
  | bitReset b r => exact (h.noteR8 r).writeR8 r _
  | bitSet b r => exact (h.noteR8 r).writeR8 r _
  | prefixed b =>
    show LogsOnly (s.prefixed b) ((s.setConsole k).prefixed b)
    unfold State.prefixed
    split
    · exact ((h.noteR8 _).writeR8 _ _).setFlags _ _ _ _
    · exact (h.noteR8 _).setFlags _ _ _ _
    · exact (h.noteR8 _).writeR8 _ _
    · exact (h.noteR8 _).writeR8 _ _
  | jumpIf cc a => exact h.jumpIf cc a
  | jumpRelIf cc e => exact h.jumpIf cc (s.relative e)
  | callTo a => exact h.callTo a
  | callIf cc a =>
    have hc : (s.setConsole k).cond cc = s.cond cc := rfl
    show LogsOnly (s.callIf cc a) ((s.setConsole k).callIf cc a)
    unfold State.callIf
    rw [hc]
    split
    · exact h.callTo a
    · exact h
  | ret => exact h.ret
  | retIf cc =>
    have hc : (s.setConsole k).cond cc = s.cond cc := rfl
    show LogsOnly (s.retIf cc) ((s.setConsole k).retIf cc)
    unfold State.retIf
    rw [hc]
    split
    · exact h.ret
    · exact h
  | reti =>
    obtain ⟨k', hk', e⟩ := h.popped
    refine ⟨k', hk', ?_⟩
    show State.returnFromInterrupt _ = _
    unfold State.returnFromInterrupt
    rw [e]
    rfl
  | stop =>
    show LogsOnly s.stop (s.setConsole k).stop
    unfold State.stop
    split <;> rename_i hm
    · rw [show (s.setConsole k).params.stopMode = _ from hm]; exact h
    · rw [show (s.setConsole k).params.stopMode = _ from hm]; exact ⟨k, hk, rfl⟩
  | _ => exact ⟨k, hk, rfl⟩

theorem fetched (h : LogsOnly s u) (n : Nat) : LogsOnly (s.fetched n) (u.fetched n) := by
  induction n generalizing s u with
  | zero => exact h
  | succ n ih =>
    obtain ⟨k, hk, rfl⟩ := h
    have h : LogsOnly s (s.setConsole k) := ⟨k, hk, rfl⟩
    exact ih ((h.noteRead s.pc).setPC (s.pc + 1))

theorem traced (h : LogsOnly s u) : LogsOnly s.traced u.traced := by
  obtain ⟨k, hk, rfl⟩ := h
  exact ⟨(s.setConsole k).traced.console, ⟨hk.wordBuffer, hk.endRequested, hk.stepsRun⟩, rfl⟩

theorem countStep (h : LogsOnly s u) : LogsOnly s.countStep u.countStep := by
  obtain ⟨k, hk, rfl⟩ := h
  exact ⟨(s.setConsole k).countStep.console,
    ⟨hk.wordBuffer, hk.endRequested, congrArg (· + 1) hk.stepsRun⟩, rfl⟩

theorem beginStep (h : LogsOnly s u) : LogsOnly s.beginStep u.beginStep := by
  have h1 : LogsOnly s.eiPromote u.eiPromote := by
    obtain ⟨k, hk, rfl⟩ := h
    rw [eiPromote_eq, eiPromote_eq]
    exact ⟨k, hk, rfl⟩
  unfold State.beginStep
  generalize s.eiPromote = s' at h1 ⊢
  generalize u.eiPromote = u' at h1 ⊢
  obtain ⟨k, hk, rfl⟩ := h1
  have h2 : LogsOnly s'.wake (s'.setConsole k).wake := by
    rw [wake_eq, wake_eq]
    exact ⟨k, hk, rfl⟩
  have hi : (s'.setConsole k).ime = s'.ime := rfl
  have hp : (s'.setConsole k).pending = s'.pending := rfl
  unfold State.interruptCheck
  rw [hi, hp]
  split
  · rename_i i _ _
    generalize s'.wake = w at h2 ⊢
    generalize (s'.setConsole k).wake = w' at h2 ⊢
    obtain ⟨l, hl, rfl⟩ := h2
    have h3 : LogsOnly ((w.setIME false).setEiCount 0) (((w.setConsole l).setIME false).setEiCount 0) := ⟨l, hl, rfl⟩
    have h4 := h3.push16 w.pc
    unfold State.service
    simp only
    obtain ⟨m, hm, e⟩ := h4
    rw [show (w.setConsole l).pc = w.pc from rfl, e]
    exact ⟨m, hm, rfl⟩
  · exact h2

theorem timerAdvance (h : LogsOnly s u) : LogsOnly s.timerAdvance u.timerAdvance := by
  obtain ⟨k, hk, rfl⟩ := h
  refine ⟨k, ?_, ?_⟩
  · rw [(timerAdvance_fields s).1]; exact hk
  · have ht : ∀ n, (s.setConsole k).timaTicks n = s.timaTicks n := fun _ => rfl
    unfold State.timerAdvance
    simp only [ht]
    show (if s.timaTicks ((s.counter + 1) % 2 ^ s.params.counterBits) = true then _ else _) = _
    split
    · unfold State.tickTIMA
      show (if s.cell addrTIMA = 0xFF then _ else _) = State.setConsole (if s.cell addrTIMA = 0xFF then _ else _) k
      split <;> rfl
    · rfl

theorem endStep (h : LogsOnly s u) : LogsOnly s.endStep u.endStep := by
  have hf : u.fault = s.fault := by obtain ⟨k, hk, rfl⟩ := h; rfl
  rcases endStep_cases s with ⟨h1, h2⟩ | ⟨h1, h2⟩ <;> rcases endStep_cases u with ⟨h3, h4⟩ | ⟨h3, h4⟩ <;> rw [h2, h4]
  · exact h.timerAdvance
  · exact absurd (hf.trans h1) h3
  · exact absurd (hf.symm.trans h3) h1
  · exact h

theorem endOfRun_eq (h : LogsOnly s u) : u.endOfRun = s.endOfRun := by
  obtain ⟨k, ⟨-, h2, h3⟩, rfl⟩ := h
  unfold State.endOfRun State.fuelSpent
  simp only [State.setConsole_console, h2, h3, State.setConsole_fault, State.setConsole_stopped, State.setConsole_params]

end LogsOnly

end Sys2Proof.Machine
end

