-- ==== Sys2Proof/Tests/Slice0.lean ====
section
/-! SUPPORT. The model's own tests. Expected values come from the spec: the encodings of 30_encoding.md and
spec/opcode_table.json, the vectors V1 to V95 and properties S1 to S7 of 95_test_vectors.md (named in each comment), the
examples of the rules. Behind them, for each statement of Certificates/Slice0/Obligations.lean that has hypotheses, a
witness that meets them all together, at the boundaries of its clauses. -/

-- One theorem behind the other: in parallel each would wait for the kernel in a thread of its own.
set_option Elab.async false

namespace Sys2Proof.Tests

open Sys2Proof.Machine

/-! ### Helpers -/

/-- A register file of zeros but for A and F. -/
def af (a f : Byte) : Regs := { a := a, f := f, b := 0, c := 0, d := 0, e := 0, h := 0, l := 0 }

/-- The state with cells changed behind the bus. -/
def placed (s : State) (cells : List (Word × Byte)) : State := cells.foldl (fun s c => s.setCell c.1 c.2) s

/-- The reset state with an instruction's bytes in work RAM at 0xC000, PC there and the cells given. -/
def bench (code : List Byte) (regs : Regs) (cells : List (Word × Byte)) : State :=
  let s := { State.reset with regs := regs, pc := 0xC000 }
  placed (placed s (code.zipIdx.map fun c => (0xC000 + BitVec.ofNat 16 c.2, c.1))) cells

/-- The state behind one step, where there is one. -/
def after (s : State) : State :=
  match step s with
  | .next t => t
  | _ => s

/-- A and F behind one step from the given A and F. -/
def afAfter (code : List Byte) (a f : Byte) : Byte × Byte :=
  let t := after (bench code (af a f) [])
  (t.reg .a, t.reg .f)

/-- HL = 0xC100, the cell there given, A and F given: the cell, A and F behind one step. -/
def hlAfter (code : List Byte) (m a f : Byte) : Byte × Byte × Byte :=
  let t := after (bench code { af a f with h := 0xC1 } [(0xC100, m)])
  (t.memRead 0xC100, t.reg .a, t.reg .f)

/-- The instructions of the sixteen first bytes from `b` on, the bytes 0x34 0x12 behind each. -/
def decodeRow (b : Nat) : List Instr := (List.range 16).map fun k => decodeOp (BitVec.ofNat 8 (b + k)) 0x34 0x12

/-- The instructions of the sixteen second bytes from `b` on behind 0xCB. -/
def decodePrefixedRow (b : Nat) : List Instr := (List.range 16).map fun k => decodeOp 0xCB (BitVec.ofNat 8 (b + k)) 0x12

/-! ### Well-formedness and rejected bytes -/

/-- The escape byte alone is the one ill-formed term (R142). -/
theorem test_wellFormed_refuses_prefix : (Instr.prefix_CB 0x37).wellFormed = false := by decide

theorem test_wellFormed_accepts : (Instr.swap_A).wellFormed = true ∧ (Instr.illegal_D3).wellFormed = true := by decide

theorem test_default_parameters_are_legal : Params.default.legal = true := by decide

theorem test_decode_truncated : decode [] = .error .noBytes ∧ decode [0x3E] = .error (.truncated 0x3E) ∧
    decode [0xEA, 0x02] = .error (.truncated 0xEA) ∧ decode [0xCB] = .error (.truncated 0xCB) := ⟨rfl, rfl, rfl, rfl⟩

/-- The words of spec/opcode_table.json: a prefixed row is numbered 0xCBss, an immediate lies above the first byte. -/
theorem test_decodeTableWord : decodeTableWord 16 0xCB37 = some .swap_A ∧ decodeTableWord 16 0x123E = some (.ld_A_n8 0x12) ∧
    decodeTableWord 24 0x1234C3 = some (.jp_n16 0x1234) ∧ decodeTableWord 8 0x76 = some .halt := ⟨rfl, rfl, rfl, rfl⟩

/-! ### Decoding: every opcode of 30_encoding.md R65 to R68, sixteen to a theorem, with the bytes 0x34 0x12 behind it -/

theorem test_decode_0x : decodeRow 0x00 =
    [.nop, .ld_BC_n16 0x1234, .ld_atBC_A, .inc_BC, .inc_B, .dec_B, .ld_B_n8 0x34, .rlca, .ld_atN16_SP 0x1234, .add_HL_BC,
     .ld_A_atBC, .dec_BC, .inc_C, .dec_C, .ld_C_n8 0x34, .rrca] := by rfl

theorem test_decode_1x : decodeRow 0x10 =
    [.stop 0x34, .ld_DE_n16 0x1234, .ld_atDE_A, .inc_DE, .inc_D, .dec_D, .ld_D_n8 0x34, .rla, .jr_e8 0x34, .add_HL_DE,
     .ld_A_atDE, .dec_DE, .inc_E, .dec_E, .ld_E_n8 0x34, .rra] := by rfl

theorem test_decode_2x : decodeRow 0x20 =
    [.jr_NZ_e8 0x34, .ld_HL_n16 0x1234, .ld_atHLi_A, .inc_HL, .inc_H, .dec_H, .ld_H_n8 0x34, .daa, .jr_Z_e8 0x34,
     .add_HL_HL, .ld_A_atHLi, .dec_HL, .inc_L, .dec_L, .ld_L_n8 0x34, .cpl] := by rfl

theorem test_decode_3x : decodeRow 0x30 =
    [.jr_NC_e8 0x34, .ld_SP_n16 0x1234, .ld_atHLd_A, .inc_SP, .inc_atHL, .dec_atHL, .ld_atHL_n8 0x34, .scf, .jr_C_e8 0x34,
     .add_HL_SP, .ld_A_atHLd, .dec_SP, .inc_A, .dec_A, .ld_A_n8 0x34, .ccf] := by rfl

theorem test_decode_4x : decodeRow 0x40 =
    [.ld_B_B, .ld_B_C, .ld_B_D, .ld_B_E, .ld_B_H, .ld_B_L, .ld_B_atHL, .ld_B_A, .ld_C_B, .ld_C_C, .ld_C_D, .ld_C_E,
     .ld_C_H, .ld_C_L, .ld_C_atHL, .ld_C_A] := by rfl

theorem test_decode_5x : decodeRow 0x50 =
    [.ld_D_B, .ld_D_C, .ld_D_D, .ld_D_E, .ld_D_H, .ld_D_L, .ld_D_atHL, .ld_D_A, .ld_E_B, .ld_E_C, .ld_E_D, .ld_E_E,
     .ld_E_H, .ld_E_L, .ld_E_atHL, .ld_E_A] := by rfl

theorem test_decode_6x : decodeRow 0x60 =
    [.ld_H_B, .ld_H_C, .ld_H_D, .ld_H_E, .ld_H_H, .ld_H_L, .ld_H_atHL, .ld_H_A, .ld_L_B, .ld_L_C, .ld_L_D, .ld_L_E,
     .ld_L_H, .ld_L_L, .ld_L_atHL, .ld_L_A] := by rfl

theorem test_decode_7x : decodeRow 0x70 =
    [.ld_atHL_B, .ld_atHL_C, .ld_atHL_D, .ld_atHL_E, .ld_atHL_H, .ld_atHL_L, .halt, .ld_atHL_A, .ld_A_B, .ld_A_C, .ld_A_D,
     .ld_A_E, .ld_A_H, .ld_A_L, .ld_A_atHL, .ld_A_A] := by rfl

theorem test_decode_8x : decodeRow 0x80 =
    [.add_A_B, .add_A_C, .add_A_D, .add_A_E, .add_A_H, .add_A_L, .add_A_atHL, .add_A_A, .adc_A_B, .adc_A_C, .adc_A_D,
     .adc_A_E, .adc_A_H, .adc_A_L, .adc_A_atHL, .adc_A_A] := by rfl

theorem test_decode_9x : decodeRow 0x90 =
    [.sub_A_B, .sub_A_C, .sub_A_D, .sub_A_E, .sub_A_H, .sub_A_L, .sub_A_atHL, .sub_A_A, .sbc_A_B, .sbc_A_C, .sbc_A_D,
     .sbc_A_E, .sbc_A_H, .sbc_A_L, .sbc_A_atHL, .sbc_A_A] := by rfl

theorem test_decode_Ax : decodeRow 0xA0 =
    [.and_A_B, .and_A_C, .and_A_D, .and_A_E, .and_A_H, .and_A_L, .and_A_atHL, .and_A_A, .xor_A_B, .xor_A_C, .xor_A_D,
     .xor_A_E, .xor_A_H, .xor_A_L, .xor_A_atHL, .xor_A_A] := by rfl

theorem test_decode_Bx : decodeRow 0xB0 =
    [.or_A_B, .or_A_C, .or_A_D, .or_A_E, .or_A_H, .or_A_L, .or_A_atHL, .or_A_A, .cp_A_B, .cp_A_C, .cp_A_D, .cp_A_E,
     .cp_A_H, .cp_A_L, .cp_A_atHL, .cp_A_A] := by rfl

theorem test_decode_Cx : decodeRow 0xC0 =
    [.ret_NZ, .pop_BC, .jp_NZ_n16 0x1234, .jp_n16 0x1234, .call_NZ_n16 0x1234, .push_BC, .add_A_n8 0x34, .rst_00, .ret_Z,
     .ret, .jp_Z_n16 0x1234, .swap_H, .call_Z_n16 0x1234, .call_n16 0x1234, .adc_A_n8 0x34, .rst_08] := by rfl

theorem test_decode_Dx : decodeRow 0xD0 =
    [.ret_NC, .pop_DE, .jp_NC_n16 0x1234, .illegal_D3, .call_NC_n16 0x1234, .push_DE, .sub_A_n8 0x34, .rst_10, .ret_C,
     .reti, .jp_C_n16 0x1234, .illegal_DB, .call_C_n16 0x1234, .illegal_DD, .sbc_A_n8 0x34, .rst_18] := by rfl

theorem test_decode_Ex : decodeRow 0xE0 =
    [.ldh_atA8_A 0x34, .pop_HL, .ldh_atC_A, .illegal_E3, .illegal_E4, .push_HL, .and_A_n8 0x34, .rst_20, .add_SP_e8 0x34,
     .jp_HL, .ld_atN16_A 0x1234, .illegal_EB, .illegal_EC, .illegal_ED, .xor_A_n8 0x34, .rst_28] := by rfl

theorem test_decode_Fx : decodeRow 0xF0 =
    [.ldh_A_atA8 0x34, .pop_AF, .ldh_A_atC, .di, .illegal_F4, .push_AF, .or_A_n8 0x34, .rst_30, .ld_HL_SPe8 0x34,
     .ld_SP_HL, .ld_A_atN16 0x1234, .ei, .illegal_FC, .illegal_FD, .cp_A_n8 0x34, .rst_38] := by rfl

theorem test_decode_CB_0x : decodePrefixedRow 0x00 =
    [.rlc_B, .rlc_C, .rlc_D, .rlc_E, .rlc_H, .rlc_L, .rlc_atHL, .rlc_A, .rrc_B, .rrc_C, .rrc_D, .rrc_E, .rrc_H, .rrc_L,
     .rrc_atHL, .rrc_A] := by rfl

theorem test_decode_CB_1x : decodePrefixedRow 0x10 =
    [.rl_B, .rl_C, .rl_D, .rl_E, .rl_H, .rl_L, .rl_atHL, .rl_A, .rr_B, .rr_C, .rr_D, .rr_E, .rr_H, .rr_L, .rr_atHL, .rr_A] := by rfl

theorem test_decode_CB_2x : decodePrefixedRow 0x20 =
    [.sla_B, .sla_C, .sla_D, .sla_E, .sla_H, .sla_L, .sla_atHL, .sla_A, .sra_B, .sra_C, .sra_D, .sra_E, .sra_H, .sra_L,
     .sra_atHL, .sra_A] := by rfl

theorem test_decode_CB_3x : decodePrefixedRow 0x30 =
    [.swap_B, .swap_C, .swap_D, .swap_E, .swap_H, .swap_L, .swap_atHL, .swap_A, .srl_B, .srl_C, .srl_D, .srl_E, .srl_H,
     .srl_L, .srl_atHL, .srl_A] := by rfl

theorem test_decode_CB_4x : decodePrefixedRow 0x40 =
    [.bit_0_B, .bit_0_C, .bit_0_D, .bit_0_E, .bit_0_H, .bit_0_L, .bit_0_atHL, .bit_0_A, .bit_1_B, .bit_1_C, .bit_1_D,
     .bit_1_E, .bit_1_H, .bit_1_L, .bit_1_atHL, .bit_1_A] := by rfl

theorem test_decode_CB_5x : decodePrefixedRow 0x50 =
    [.bit_2_B, .bit_2_C, .bit_2_D, .bit_2_E, .bit_2_H, .bit_2_L, .bit_2_atHL, .bit_2_A, .bit_3_B, .bit_3_C, .bit_3_D,
     .bit_3_E, .bit_3_H, .bit_3_L, .bit_3_atHL, .bit_3_A] := by rfl

theorem test_decode_CB_6x : decodePrefixedRow 0x60 =
    [.bit_4_B, .bit_4_C, .bit_4_D, .bit_4_E, .bit_4_H, .bit_4_L, .bit_4_atHL, .bit_4_A, .bit_5_B, .bit_5_C, .bit_5_D,
     .bit_5_E, .bit_5_H, .bit_5_L, .bit_5_atHL, .bit_5_A] := by rfl

theorem test_decode_CB_7x : decodePrefixedRow 0x70 =
    [.bit_6_B, .bit_6_C, .bit_6_D, .bit_6_E, .bit_6_H, .bit_6_L, .bit_6_atHL, .bit_6_A, .bit_7_B, .bit_7_C, .bit_7_D,
     .bit_7_E, .bit_7_H, .bit_7_L, .bit_7_atHL, .bit_7_A] := by rfl

theorem test_decode_CB_8x : decodePrefixedRow 0x80 =
    [.res_0_B, .res_0_C, .res_0_D, .res_0_E, .res_0_H, .res_0_L, .res_0_atHL, .res_0_A, .res_1_B, .res_1_C, .res_1_D,
     .res_1_E, .res_1_H, .res_1_L, .res_1_atHL, .res_1_A] := by rfl

theorem test_decode_CB_9x : decodePrefixedRow 0x90 =
    [.res_2_B, .res_2_C, .res_2_D, .res_2_E, .res_2_H, .res_2_L, .res_2_atHL, .res_2_A, .res_3_B, .res_3_C, .res_3_D,
     .res_3_E, .res_3_H, .res_3_L, .res_3_atHL, .res_3_A] := by rfl

theorem test_decode_CB_Ax : decodePrefixedRow 0xA0 =
    [.res_4_B, .res_4_C, .res_4_D, .res_4_E, .res_4_H, .res_4_L, .res_4_atHL, .res_4_A, .res_5_B, .res_5_C, .res_5_D,
     .res_5_E, .res_5_H, .res_5_L, .res_5_atHL, .res_5_A] := by rfl

theorem test_decode_CB_Bx : decodePrefixedRow 0xB0 =
    [.res_6_B, .res_6_C, .res_6_D, .res_6_E, .res_6_H, .res_6_L, .res_6_atHL, .res_6_A, .res_7_B, .res_7_C, .res_7_D,
     .res_7_E, .res_7_H, .res_7_L, .res_7_atHL, .res_7_A] := by rfl

theorem test_decode_CB_Cx : decodePrefixedRow 0xC0 =
    [.set_0_B, .set_0_C, .set_0_D, .set_0_E, .set_0_H, .set_0_L, .set_0_atHL, .set_0_A, .set_1_B, .set_1_C, .set_1_D,
     .set_1_E, .set_1_H, .set_1_L, .set_1_atHL, .set_1_A] := by rfl

theorem test_decode_CB_Dx : decodePrefixedRow 0xD0 =
    [.set_2_B, .set_2_C, .set_2_D, .set_2_E, .set_2_H, .set_2_L, .set_2_atHL, .set_2_A, .set_3_B, .set_3_C, .set_3_D,
     .set_3_E, .set_3_H, .set_3_L, .set_3_atHL, .set_3_A] := by rfl

theorem test_decode_CB_Ex : decodePrefixedRow 0xE0 =
    [.set_4_B, .set_4_C, .set_4_D, .set_4_E, .set_4_H, .set_4_L, .set_4_atHL, .set_4_A, .set_5_B, .set_5_C, .set_5_D,
     .set_5_E, .set_5_H, .set_5_L, .set_5_atHL, .set_5_A] := by rfl

theorem test_decode_CB_Fx : decodePrefixedRow 0xF0 =
    [.set_6_B, .set_6_C, .set_6_D, .set_6_E, .set_6_H, .set_6_L, .set_6_atHL, .set_6_A, .set_7_B, .set_7_C, .set_7_D,
     .set_7_E, .set_7_H, .set_7_L, .set_7_atHL, .set_7_A] := by rfl

theorem test_length_00 : (List.range 64).map (fun k => opLength (BitVec.ofNat 8 (0 + k))) =
    [1, 3, 1, 1, 1, 1, 2, 1, 3, 1, 1, 1, 1, 1, 2, 1, 2, 3, 1, 1, 1, 1, 2, 1, 2, 1, 1, 1, 1, 1, 2, 1, 2, 3, 1, 1, 1, 1, 2,
     1, 2, 1, 1, 1, 1, 1, 2, 1, 2, 3, 1, 1, 1, 1, 2, 1, 2, 1, 1, 1, 1, 1, 2, 1] := by decide

theorem test_length_40 : (List.range 64).map (fun k => opLength (BitVec.ofNat 8 (64 + k))) =
    [1, 1, 1, 1, 1, 1, 1, 1, 1, 1, 1, 1, 1, 1, 1, 1, 1, 1, 1, 1, 1, 1, 1, 1, 1, 1, 1, 1, 1, 1, 1, 1, 1, 1, 1, 1, 1, 1, 1,
     1, 1, 1, 1, 1, 1, 1, 1, 1, 1, 1, 1, 1, 1, 1, 1, 1, 1, 1, 1, 1, 1, 1, 1, 1] := by decide

theorem test_length_80 : (List.range 64).map (fun k => opLength (BitVec.ofNat 8 (128 + k))) =
    [1, 1, 1, 1, 1, 1, 1, 1, 1, 1, 1, 1, 1, 1, 1, 1, 1, 1, 1, 1, 1, 1, 1, 1, 1, 1, 1, 1, 1, 1, 1, 1, 1, 1, 1, 1, 1, 1, 1,
     1, 1, 1, 1, 1, 1, 1, 1, 1, 1, 1, 1, 1, 1, 1, 1, 1, 1, 1, 1, 1, 1, 1, 1, 1] := by decide

theorem test_length_C0 : (List.range 64).map (fun k => opLength (BitVec.ofNat 8 (192 + k))) =
    [1, 1, 3, 3, 3, 1, 2, 1, 1, 1, 3, 2, 3, 3, 2, 1, 1, 1, 3, 1, 3, 1, 2, 1, 1, 1, 3, 1, 3, 1, 2, 1, 2, 1, 1, 1, 1, 1, 2,
     1, 2, 1, 3, 1, 1, 1, 2, 1, 2, 1, 1, 1, 1, 1, 2, 1, 2, 1, 3, 1, 1, 1, 2, 1] := by decide

/-! ### 8-bit arithmetic and logic: V1 to V29 -/

theorem test_add : [afAfter [0xC6, 0x01] 0xFF 0x00, afAfter [0xC6, 0x01] 0x0F 0x00, afAfter [0x87] 0x80 0x00] =
    [(0x00, 0xB0), (0x10, 0x20), (0x00, 0x90)] := by decide +kernel -- V1 to V3

theorem test_adc : [afAfter [0xCE, 0x00] 0x0F 0x10, afAfter [0xCE, 0xFF] 0xFF 0x10] = [(0x10, 0x20), (0xFF, 0x30)] := by
  decide +kernel -- V4, V5

theorem test_sub : [afAfter [0xD6, 0x01] 0x00 0x00, afAfter [0x97] 0x5C 0x10] = [(0xFF, 0x70), (0x00, 0xC0)] := by
  decide +kernel -- V6, V7

theorem test_sbc : [afAfter [0xDE, 0x00] 0x00 0x10, afAfter [0xDE, 0x0F] 0x10 0x00, afAfter [0x9F] 0x42 0x10] =
    [(0xFF, 0x70), (0x01, 0x60), (0xFF, 0x70)] := by decide +kernel -- V8 to V10

theorem test_logic : [afAfter [0xE6, 0x0F] 0xF0 0x10, afAfter [0xAF] 0x77 0x70, afAfter [0xF6, 0x00] 0x00 0x70] =
    [(0x00, 0xA0), (0x00, 0x80), (0x00, 0x80)] := by decide +kernel -- V11 to V13

theorem test_cp : afAfter [0xFE, 0x3C] 0x3C 0x00 = (0x3C, 0xC0) ∧ hlAfter [0xBE] 0x20 0x10 0x00 = (0x20, 0x10, 0x50) := by
  decide +kernel -- V14, V15

theorem test_inc : afAfter [0x3C] 0xFF 0x10 = (0x00, 0xB0) ∧ hlAfter [0x34] 0x7F 0x00 0x00 = (0x80, 0x00, 0x20) := by
  decide +kernel -- V16, V17

theorem test_dec_B :
    (let t := after (bench [0x05] (af 0 0x10) []); (t.reg .b, t.reg .f)) = (0xFF, 0x70) ∧
    (let t := after (bench [0x05] { af 0 0 with b := 0x10 } []); (t.reg .b, t.reg .f)) = (0x0F, 0x60) := by
  decide +kernel -- V18, V19

theorem test_daa : [afAfter [0x27] 0x9A 0x00, afAfter [0x27] 0xA0 0x00, afAfter [0x27] 0x11 0x20, afAfter [0x27] 0x32 0x30,
      afAfter [0x27] 0x0F 0x60, afAfter [0x27] 0xFF 0x70, afAfter [0x27] 0x42 0x80] =
    [(0x00, 0x90), (0x00, 0x90), (0x17, 0x00), (0x98, 0x10), (0x09, 0x40), (0x99, 0x50), (0x42, 0x00)] := by
  decide +kernel -- V20 to V26

theorem test_cpl_scf_ccf : [afAfter [0x2F] 0xFF 0x90, afAfter [0x37] 0x00 0x00, afAfter [0x3F] 0x00 0x80] =
    [(0x00, 0xF0), (0x00, 0x10), (0x00, 0x90)] := by decide +kernel -- V27 to V29

/-! ### 16-bit arithmetic: V30 to V37 -/

theorem test_inc_SP_dec_HL :
    (let t := after { bench [0x33] (af 0 0) [] with sp := 0xFFFF }; (t.sp, t.reg .f)) = (0x0000, 0x00) ∧
    (let t := after (bench [0x2B] (af 0 0) []); (t.hl, t.reg .f)) = (0xFFFF, 0x00) := by decide +kernel -- V30, V31

theorem test_add_HL :
    (let t := after { bench [0x39] { af 0 0x80 with h := 0xFF, l := 0xFF } [] with sp := 0x0001 }; (t.hl, t.reg .f)) =
      (0x0000, 0xB0) ∧
    (let t := after (bench [0x19] { af 0 0x40 with h := 0x0F, l := 0xFF, e := 0x01 } []); (t.hl, t.reg .f)) =
      (0x1000, 0x20) := by decide +kernel -- V32, V33

theorem test_add_SP :
    (let t := after { bench [0xE8, 0xFE] (af 0 0xF0) [] with sp := 0xFFFE }; (t.sp, t.reg .f)) = (0xFFFC, 0x30) ∧
    (let t := after { bench [0xE8, 0x10] (af 0 0xF0) [] with sp := 0x1000 }; (t.sp, t.reg .f)) = (0x1010, 0x00) := by
  decide +kernel -- V34, V35

theorem test_ld_HL_SPe8 :
    (let t := after { bench [0xF8, 0xFF] (af 0 0xF0) [] with sp := 0x0000 }; (t.hl, t.sp, t.reg .f)) =
      (0xFFFF, 0x0000, 0x00) ∧
    (let t := after { bench [0xF8, 0x0F] (af 0 0) [] with sp := 0x00F1 }; (t.hl, t.reg .f)) = (0x0100, 0x30) := by
  decide +kernel -- V36, V37

/-! ### Rotates, shifts and bits: V38 to V56 -/

theorem test_accumulator_rotates :
    [afAfter [0x07] 0x00 0x80, afAfter [0x0F] 0x01 0x00, afAfter [0x17] 0x00 0x10, afAfter [0x1F] 0x01 0x00] =
    [(0x00, 0x00), (0x80, 0x10), (0x01, 0x00), (0x00, 0x10)] := by decide +kernel -- V38 to V41

theorem test_rotates_atHL :
    [hlAfter [0xCB, 0x06] 0x80 0 0x00, hlAfter [0xCB, 0x1E] 0x01 0 0x10, hlAfter [0xCB, 0x36] 0xF1 0 0x00] =
    [(0x01, 0, 0x10), (0x80, 0, 0x10), (0x1F, 0, 0x00)] := by decide +kernel -- V42, V45, V50

theorem test_rrc_rl_sra :
    (let t := after (bench [0xCB, 0x08] (af 0 0x10) []); (t.reg .b, t.reg .f)) = (0x00, 0x80) ∧
    (let t := after (bench [0xCB, 0x11] { af 0 0x10 with c := 0x7F } []); (t.reg .c, t.reg .f)) = (0xFF, 0x00) ∧
    (let t := after (bench [0xCB, 0x28] { af 0 0 with b := 0x80 } []); (t.reg .b, t.reg .f)) = (0xC0, 0x00) := by
  decide +kernel -- V43, V44, V48

theorem test_sla_sra_swap_srl :
    [afAfter [0xCB, 0x27] 0x80 0x00, afAfter [0xCB, 0x2F] 0x01 0x00, afAfter [0xCB, 0x37] 0x00 0x30,
      afAfter [0xCB, 0x3F] 0x01 0x00] = [(0x00, 0x90), (0x00, 0x90), (0x00, 0x80), (0x00, 0x90)] := by
  decide +kernel -- V46, V47, V49, V51

theorem test_bit : afAfter [0xCB, 0x47] 0x01 0xD0 = (0x01, 0x30) ∧ hlAfter [0xCB, 0x5E] 0xF7 0 0 = (0xF7, 0, 0xA0) := by
  decide +kernel -- V52, V53

theorem test_res_set : hlAfter [0xCB, 0xBE] 0xFF 0 0xF0 = (0x7F, 0, 0xF0) ∧
    (let t := after (bench [0xCB, 0xC0] (af 0 0) []); (t.reg .b, t.reg .f)) = (0x01, 0x00) ∧
    afAfter [0xCB, 0xFF] 0x00 0x00 = (0x80, 0x00) := by decide +kernel -- V54 to V56

/-! ### Loads, stores and the bus: V57 to V70 -/

theorem test_ld_atHL_n8 : hlAfter [0x36, 0x5A] 0 0 0 = (0x5A, 0, 0) := by decide +kernel -- V57

theorem test_ld_H_atHL : (after (bench [0x66] { af 0 0 with h := 0xC1 } [(0xC100, 0x12)])).hl = 0x1200 := by
  decide +kernel -- V58

theorem test_ld_atHLi_A_wraps :
    (let t := after (bench [0x22] { af 0x33 0 with h := 0xFF, l := 0xFF } []); (t.memRead 0xFFFF, t.hl)) =
      (0x33, 0x0000) := by decide +kernel -- V59, S4

theorem test_ld_atHLd_A :
    (let t := after (bench [0x32] { af 0x01 0 with h := 0xC0, l := 0x10 } []); (t.memRead 0xC010, t.hl)) =
      (0x01, 0xC00F) := by decide +kernel -- S4

theorem test_ld_A_atHLd_wraps :
    (let t := after (bench [0x3A] (af 0 0) [(0x0000, 0x5C)]); (t.reg .a, t.hl)) = (0x5C, 0xFFFF) := by
  decide +kernel -- V60

theorem test_store_into_rom :
    (let t := after (bench [0x02] { af 0x99 0 with b := 0x20 } [(0x2000, 0x11)]); (t.memRead 0x2000, t.console.warnings)) =
      (0x11, [{ kind := .romWrite, addr := 0x2000 }]) := by decide +kernel -- V61

theorem test_read_holes :
    (let t := after (bench [0x1A] { af 0x55 0 with d := 0xE0 } []); (t.reg .a, t.console.warnings)) =
      (0x00, [{ kind := .unmapped, addr := 0xE000 }]) ∧
    (let t := after (bench [0xFA, 0xA0, 0xFE] (af 0x55 0) []); (t.reg .a, t.console.warnings)) =
      (0x00, [{ kind := .prohibited, addr := 0xFEA0 }]) := by decide +kernel -- V62, V63

theorem test_ldh_atC_A : (after (bench [0xE2] { af 0x1F 0 with c := 0xFF } [])).memRead 0xFFFF = 0x1F := by
  decide +kernel -- V64

theorem test_ld_atN16_SP_wraps :
    (let t := after { bench [0x08, 0xFF, 0xFF] (af 0 0) [] with sp := 0x1234 }; (t.memRead 0xFFFF, t.console.warnings)) =
      (0x34, [{ kind := .romWrite, addr := 0x0000 }]) := by decide +kernel -- V65

theorem test_push_AF :
    (let t := after { bench [0xF5] (af 0x12 0xB0) [] with sp := 0xD000 }; (t.memRead 0xCFFF, t.memRead 0xCFFE, t.sp)) =
      (0x12, 0xB0, 0xCFFE) := by decide +kernel -- V66

theorem test_pop_AF :
    (let t := after { bench [0xF1] (af 0 0) [(0xD000, 0xFF)] with sp := 0xD000 }; (t.reg .a, t.reg .f, t.sp)) =
      (0x00, 0xF0, 0xD002) := by decide +kernel -- V67

theorem test_pop_BC_wraps :
    (let t := after { bench [0xC1] (af 0 0) [(0xFFFF, 0x34), (0x0000, 0x5C)] with sp := 0xFFFF };
      (t.reg .b, t.reg .c, t.sp)) = (0x5C, 0x34, 0x0001) := by decide +kernel -- V68

theorem test_push_into_rom :
    (let t := after { bench [0xD5] { af 0 0 with d := 0xAB, e := 0xCD } [] with sp := 0x0002 };
      (t.sp, t.memRead 0x0000, t.memRead 0x0001, t.console.warnings)) =
      (0x0000, 0x00, 0x00, [{ kind := .romWrite, addr := 0x0001 }, { kind := .romWrite, addr := 0x0000 }]) := by
  decide +kernel -- V69

theorem test_serial_capture :
    (let t := after (bench [0xEA, 0x02, 0xFF] (af 0x81 0) [(0xFF01, 0x50)]);
      (t.memRead 0xFF02, t.console.wordBuffer, t.console.echoed)) = (0x81, [0x50], [0x50]) := by decide +kernel -- V70

/-! ### Control transfer: V71 to V82 -/

/-- PC behind one step, from the given F and HL = 0x0038, with SP at a return address 0x4000. -/
def pcAfter (code : List Byte) (f : Byte) : Word × Word :=
  let t := after { bench code { af 0 f with l := 0x38 } [(0xD001, 0x40)] with sp := 0xD000 }
  (t.pc, t.sp)

theorem test_jumps :
    [pcAfter [0xE9] 0x00, pcAfter [0xDA, 0x00, 0x40] 0x10, pcAfter [0x18, 0x7F] 0, pcAfter [0x18, 0x80] 0,
      pcAfter [0x18, 0xFE] 0, pcAfter [0x28, 0x10] 0x00] =
    [(0x0038, 0xD000), (0x4000, 0xD000), (0xC081, 0xD000), (0xBF82, 0xD000), (0xC000, 0xD000), (0xC002, 0xD000)] := by
  decide +kernel -- V71 to V76

theorem test_calls_and_returns :
    [pcAfter [0xCC, 0x00, 0x30] 0x80, pcAfter [0xD0] 0x10, pcAfter [0xC0] 0x00, pcAfter [0xFF] 0, pcAfter [0xC7] 0] =
    [(0x3000, 0xCFFE), (0xC001, 0xD000), (0x4000, 0xD002), (0x0038, 0xCFFE), (0x0000, 0xCFFE)] := by
  decide +kernel -- V77, V78, V79, V81, V82

theorem test_call_pushes :
    (let t := after { bench [0xCC, 0x00, 0x30] (af 0 0x80) [] with sp := 0xD000 }; (t.memRead 0xCFFF, t.memRead 0xCFFE)) =
      (0xC0, 0x03) := by decide +kernel -- V77

theorem test_reti :
    (let t := after { bench [0xD9] (af 0 0) [(0xD000, 0x34), (0xD001, 0x12)] with sp := 0xD000 };
      (t.pc, t.sp, t.ime)) = (0x1234, 0xD002, true) := by decide +kernel -- V80

/-! ### System instructions, interrupts, the timer, the fault: V83 to V95, S6, S7 -/

theorem test_di_ei :
    (let t := after { bench [0xF3] (af 0 0) [] with ime := true }; (t.ime, t.eiCount)) = (false, 0) ∧
    (let t := after (bench [0xFB] (af 0 0) []); (t.ime, t.eiCount, t.eiPromote.ime)) = (false, 1, true) := by
  decide +kernel -- V83, V84

theorem test_interrupt_behind_ei :
    (let t := after (after (bench [0xFB, 0x3C, 0x3C] (af 0 0) [(0xFF0F, 0x01), (0xFFFF, 0x01)]));
      (t.reg .a, t.memRead 0xFFFD, t.memRead 0xFFFC, t.memRead 0xFF0F, t.pc)) = (0x00, 0xC0, 0x01, 0x00, 0x0041) := by
  decide +kernel -- V85

theorem test_ei_delay_two :
    (let s := bench [0xFB, 0x3C, 0x3C] (af 0 0) [(0xFF0F, 0x01), (0xFFFF, 0x01)];
      let t := after (after { s with params := { s.params with eiDelay := .two } });
      (t.reg .a, t.pc, t.ime, t.eiCount)) = (0x01, 0xC002, false, 1) := by decide +kernel -- V86

theorem test_halt :
    (let t := after (bench [0x76, 0x3C] (af 0 0) []); let u := after t;
      (t.halted, t.pc, u.halted, u.pc, u.counter, u.console.trace.length)) = (true, 0xC001, true, 0xC001, 2, 1) := by
  decide +kernel -- V87

theorem test_halt_wakes :
    (let t := after (placed (after (bench [0x76, 0x3C] (af 0 0) [])) [(0xFF0F, 0x04), (0xFFFF, 0x04)]);
      (t.halted, t.reg .a, t.pc, t.memRead 0xFF0F)) = (false, 0x01, 0xC002, 0x04) := by decide +kernel -- V88

theorem test_stop :
    (let t := after (bench [0x10, 0x00] (af 0 0) []); (t.pc, t.stopped)) = (0xC002, false) ∧
    (let s := bench [0x10, 0x00] (af 0 0) []; let t := after { s with params := { s.params with stopMode := .hang } };
      (t.pc, t.stopped, t.endOfRun)) = (0xC002, true, some .stopped) := by decide +kernel -- V89, V90

theorem test_illegal_opcode :
    (let t := after { bench [0xFD] (af 0 0) [] with counter := 7 }; (t.pc, t.fault, t.counter)) =
      (0xC001, some { addr := 0xC000, byte := 0xFD }, 7) := by decide +kernel -- V91

theorem test_prefix_is_one_instruction :
    (let t := after { bench [0xCB, 0x37] (af 0x12 0) [] with counter := 7 };
      (t.reg .a, t.pc, t.counter, t.console.trace.length)) = (0x21, 0xC002, 8, 1) := by decide +kernel -- V92

theorem test_interrupt_priority :
    (let t := after { bench [] (af 0 0) [(0xFF0F, 0x03), (0xFFFF, 0x03)] with sp := 0xFFFE, ime := true };
      (t.ime, t.memRead 0xFFFD, t.memRead 0xFFFC, t.sp, t.memRead 0xFF0F, t.pc)) =
      (false, 0xC0, 0x00, 0xFFFC, 0x02, 0x0041) := by decide +kernel -- S6

theorem test_entry_pushes_over_IF :
    (let t := ({ bench [] (af 0 0) [(0xFF0F, 0x04), (0xFFFF, 0x04)] with sp := 0xFF10, ime := true }).beginStep;
      (t.memRead 0xFF0F, t.memRead 0xFF0E, t.sp, t.pc)) = (0xC0, 0x00, 0xFF0E, 0x0050) := by decide +kernel -- V93

theorem test_timer_periods :
    [0x04, 0x05, 0x06, 0x07].map (fun tac => Params.period State.reset.params (BitVec.ofNat 2 tac)) =
      [1024, 16, 64, 256] := by decide -- V94

theorem test_timer_overflow :
    (let s := { bench [0x00] (af 0 0) [(0xFF07, 0x05), (0xFF05, 0xFF), (0xFF06, 0x20)] with counter := 14 };
      let t := after s; let u := s.timerAdvance.timerAdvance;
      (t.memRead 0xFF05, t.memRead 0xFF0F, u.memRead 0xFF05, u.memRead 0xFF0F, u.lastTick)) =
      (0xFF, 0x00, 0x20, 0x04, 16) := by decide +kernel -- S7

theorem test_timer_disabled :
    (let t := after { bench [0x00] (af 0 0) [(0xFF07, 0x03), (0xFF05, 0x10)] with counter := 255 };
      (t.memRead 0xFF05, t.counter, t.lastTick)) = (0x10, 256, 0) := by decide +kernel -- V95

/-! ### The launch and the trace: S5, the example of R176 -/

/-- An image of 0x0150 zero bytes with the bytes `jump` at 0x0100, the logo `logo` and the byte `sum` at 0x014D. -/
def image (jump logo : List Byte) (sum : Byte) : List Byte :=
  List.replicate 0x0100 0 ++ jump ++ logo ++ List.replicate 25 0 ++ [sum, 0, 0]

theorem test_image_acceptance :
    let accept := fun (logo : List Byte) (sum : Byte) => refusalOf Config.standardLogo (some (image [0, 0xC3, 0x50, 1] logo sum))
    (image [0, 0xC3, 0x50, 1] Config.standardLogo 0xE7).length = 0x0150 ∧ accept Config.standardLogo 0xE7 = none ∧
    accept (0x31 :: Config.standardLogo.tail) 0xE7 = some .logoMismatch ∧
    accept Config.standardLogo 0xE6 = some .checksumMismatch ∧
    refusalOf Config.standardLogo (some (List.replicate 0x014F 0)) = some .tooShort := by decide +kernel -- S5

theorem test_trace_line :
    TraceLine.render (State.traceLine (placed State.reset [(0x0101, 0xC3), (0x0102, 0x50), (0x0103, 0x01)])) =
      "A:01 F:B0 B:00 C:13 D:00 E:D8 H:01 L:4D SP:FFFE PC:0100 PCMEM:00,C3,50,01".toList := by decide +kernel -- R176

/-- An instruction placed for the next step is run by it, from reset too, where PC is in ROM. -/
theorem test_withFetchWord :
    (after (State.reset.withFetchWord 16 0x773E)).reg .a = 0x77 ∧ (after (State.reset.withFetchWord 16 0xCB37)).reg .a = 0x10 ∧
    (after (State.reset.withFetchWord 8 0xF3)).pc = 0x0101 := by decide +kernel

/-! ### Witnesses: states and operands that meet a statement's hypotheses -/

/-- A state of the bench with code and data in RAM and ROM: SP, A and F as given. -/
def wit (code : List Byte) (a f : Byte) (sp : Word) : State := { bench code (af a f) [(0x0000, 0x01)] with sp := sp }

/-- The state with the given requests pending: enabled sources in IF and IE. -/
def withRequests (p : Byte) (s : State) : State := placed s [(0xFF0F, p), (0xFFFF, p)]

theorem witness_DecodeInvertsEncode : (Instr.ld_HL_n16 0xFFFF).wellFormed = true := by decide

theorem witness_EncodeInvertsDecode : decode [0xCB, 0xFF, 0x01] = .ok (.set_7_A, [0x01]) := rfl

theorem witness_UnrecognisedOpcodesAreTheEleven :
    State.reset.fault = none ∧ (0xFD : Byte) ∈ illegalBytes ∧ (0xFE : Byte) ∉ illegalBytes := by decide

theorem witness_PairsAreViewsOfTwoRegisters :
    (Reg8.a, Reg8.f) ∈ [(Reg8.a, Reg8.f), (.b, .c), (.d, .e), (.h, .l)] ∧
    (Reg8.h, Reg8.l) ∈ [(Reg8.a, Reg8.f), (.b, .c), (.d, .e), (.h, .l)] := by decide

theorem witness_LaunchBeginsInResetState :
    refusalOf LaunchConfig.default.logo (some (image [0, 0xC3, 0x50, 1] Config.standardLogo 0xE7)) = none ∧
    (0x7FFF : Word).toNat < 0x8000 ∧ (0xFDFF : Word).toNat ≤ 0xFDFF ∧ 0xFEA0 ≤ (0xFEA0 : Word).toNat ∧ writable 0x8000 = true ∧ writable 0xFFFF = true := by decide +kernel

theorem witness_ImageAcceptanceChecksInOrder : LaunchConfig.default.logo.length = 48 := by decide

theorem witness_BusReadRoutesByAddress :
    (0x0000 : Word).toNat ≤ 0xDFFF ∧ 0xFF00 ≤ (0xFFFF : Word).toNat ∧ (0xDFFF : Word).toNat ≤ 0xDFFF ∧ (0xFE00 : Word).toNat ≤ 0xFE9F ∧ (0xFE9F : Word).toNat ≤ 0xFE9F ∧
    0xFF00 ≤ (0xFF00 : Word).toNat ∧ 0xE000 ≤ (0xE000 : Word).toNat ∧ (0xFDFF : Word).toNat ≤ 0xFDFF ∧
    0xFEA0 ≤ (0xFEA0 : Word).toNat ∧ (0xFEFF : Word).toNat ≤ 0xFEFF := by decide

theorem witness_BusWriteRoutesByAddress :
    let s := wit [] 0 0 0
    Memory.wf s.mem = true ∧ s.memWrite 0x7FFF 1 = s.warn .romWrite 0x7FFF ∧ s.memWrite 0xE000 1 = s.warn .unmapped 0xE000 ∧
    s.memWrite 0xFDFF 1 = s.warn .unmapped 0xFDFF ∧ s.memWrite 0xFEA0 1 = s.warn .prohibited 0xFEA0 ∧
    s.memWrite 0xFEFF 1 = s.warn .prohibited 0xFEFF ∧ (s.memWrite 0x8000 1).memRead 0x8000 = 1 ∧
    (s.memWrite 0xDFFF 1).memRead 0xDFFF = 1 ∧ (s.memWrite 0xFE00 1).memRead 0xFE00 = 1 ∧
    (s.memWrite 0xFE9F 1).memRead 0xFE9F = 1 ∧ (s.memWrite 0xFF00 1).memRead 0xFF00 = 1 := by decide +kernel

theorem witness_SerialBytesBuildTheWord :
    ({ State.reset with console := { Console.empty with endRequested := some .passed } }).endOfRun = some .passed ∧
    ({ State.reset with console := { Console.empty with endRequested := some .failed } }).endOfRun = some .failed ∧
    ({ Console.empty with wordBuffer := [0x50, 0x61, 0x73, 0x73, 0x65] } : Console).serial 0x64 =
      { Console.empty with
        wordBuffer := [0x50, 0x61, 0x73, 0x73, 0x65, 0x64], echoed := [0x64], endRequested := some .passed } ∧
    (({ Console.empty with wordBuffer := [0x46, 0x61, 0x69, 0x6C, 0x65] } : Console).serial 0x64).endRequested = some .failed ∧
    (({ Console.empty with wordBuffer := [0x78, 0x50, 0x61, 0x73, 0x73, 0x65] } : Console).serial 0x64).endRequested = none ∧
    (({ Console.empty with wordBuffer := [0x50] } : Console).serial 0x20).wordBuffer = [] ∧
    (({ Console.empty with wordBuffer := [0x50] } : Console).serial 0x0A).wordBuffer = [] := by decide

theorem witness_PushThenPopMovesTheValue :
    let s := wit [0xC5, 0xF1] 0x12 0xF0 0x0000
    Memory.wf s.mem = true ∧ writable (s.sp - 1) = true ∧ writable (s.sp - 2) = true := by decide +kernel

theorem witness_LdR8R8CopiesTheOperand :
    ¬(R8.atHL = .atHL ∧ R8.h = .atHL) ∧ ¬((7 : BitVec 3) = 6 ∧ (6 : BitVec 3) = 6) ∧
    Memory.wf (wit [0x74] 0 0 0).mem = true := by decide +kernel

theorem witness_LdR8ImmediateWritesTheByte : Memory.wf (wit [0x36, 0x5A] 0 0 0).mem = true := by decide +kernel

theorem witness_StoreAThroughBCOrDE : Memory.wf (wit [0x12] 0x33 0 0).mem = true := by decide +kernel

theorem witness_StoreAAtAddress : Memory.wf (wit [0xEA, 0x02, 0xFF] 0x81 0 0).mem = true := by decide +kernel

/-- At 0xFFFF the low byte alone is stored, at 0x7FFF the high byte alone. -/
theorem witness_StoreSPAndLoadSP :
    Memory.wf (wit [0x08, 0xFF, 0xFF] 0 0 0x1234).mem = true ∧ writable 0xFFFF = true ∧ writable (0xFFFF + 1) = false ∧
    writable 0x7FFF = false ∧ writable (0x7FFF + 1) = true := by decide +kernel

/-- At SP = 0x0001 the high byte falls into ROM and the low byte into IE. -/
theorem witness_PushStoresThePair :
    let s := wit [0xF5] 0x12 0xF0 0x0001
    Memory.wf s.mem = true ∧ writable (s.sp - 1) = false ∧ writable (s.sp - 2) = true := by decide +kernel

theorem witness_IncAndDecR8KeepCarry : Memory.wf (wit [0x34] 0 0x10 0).mem = true := by decide +kernel

theorem witness_DaaCorrectsBcdArithmetic :
    (99 < 100 ∧ 99 < 100) ∧ (wit [0xC6, 0x99] 0x99 0 0).reg .a = BitVec.ofNat 8 (99 / 10 * 16 + 99 % 10) := by decide +kernel

theorem witness_PrefixedRotatesAndShifts : Memory.wf (wit [0xCB, 0x06] 0 0x10 0).mem = true := by decide +kernel

theorem witness_ResAndSetChangeOneBit : Memory.wf (wit [0xCB, 0xBE] 0 0 0).mem = true := by decide +kernel

theorem witness_CallAndRstPushTheReturnAddress : Memory.wf (wit [0xFF] 0 0 0xD000).mem = true := by decide +kernel

theorem witness_ConditionalCallTestsTheFlag :
    let s := wit [0xCC, 0x00, 0x30] 0 0x80 0xD000
    Memory.wf s.mem = true ∧ s.cond .z = true ∧ s.cond .nz = false := by decide +kernel

theorem witness_RetPopsPC : (wit [0xC8] 0 0x10 0xD000).cond .c = true ∧ (wit [0xC8] 0 0x10 0xD000).cond .nc = false := by
  decide +kernel

theorem witness_DiEiAndThePromotion :
    let s := wit [0xFB] 0 0 0
    let u := { s with params := { s.params with eiDelay := .two } }
    (s.ime, s.params.eiDelay, exec .ei s) = (false, .one, .next { s with eiCount := 1 }) ∧
    (u.ime, u.params.eiDelay, exec .ei u) = (false, .two, .next { u with eiCount := 2 }) := ⟨rfl, rfl⟩

theorem witness_StepRunsTheDecodedInstruction :
    let s := wit [0xCB, 0x37] 0x12 0 0
    s.endOfRun = none ∧ s.countStep.beginStep.halted = false ∧
    decode (s.countStep.beginStep.readRange s.countStep.beginStep.pc 3) = .ok (.swap_A, [0x00]) :=
  ⟨by decide +kernel, by decide +kernel, by rfl⟩

theorem witness_IllegalOpcodesRecordTheFault :
    (after (wit [0xFD] 0 0 0)).fault = some { addr := 0xC000, byte := 0xFD } := by decide +kernel

theorem witness_IllegalOpcodeStepFaultsPrecisely :
    let s := wit [0xFD] 0 0 0
    s.endOfRun = none ∧ s.eiCount = 0 ∧ s.ime = false ∧ s.halted = false ∧ s.memRead s.pc ∈ illegalBytes := by
  decide +kernel

theorem witness_HaltedStepWaitsOrWakes :
    let s := { wit [0x3C] 0 0 0xD000 with halted := true }
    let r := withRequests 0x10 s
    let u := { r with eiCount := 1 }
    (s.endOfRun, s.halted, s.deliverable) = (none, true, 0) ∧
    (r.endOfRun, r.halted, r.deliverable, r.eiPromote.ime) = (none, true, 0x10, false) ∧
    (u.endOfRun, u.halted, u.deliverable, u.eiPromote.ime) = (none, true, 0x10, true) := by decide +kernel

/-- An entry, its push landing on IF; and the two ways to take none: IME = 0, and requests without a source (bits 7:5) alone. -/
theorem witness_InterruptEntryTakesTheLowestSource :
    let s := { withRequests 0x18 (wit [0x00] 0 0 0xFF10) with ime := true }
    let u := withRequests 0x18 (wit [0x00] 0 0 0xFF10)
    let v := { withRequests 0xE0 (wit [0x00] 0 0 0xFF10) with ime := true }
    (Memory.wf s.mem, s.eiPromote.ime, s.deliverable, s.beginStep.pc) = (true, true, 0x18, 0x0058) ∧
    (Memory.wf u.mem, u.eiPromote.ime, u.halted, u.beginStep.pc) = (true, false, false, 0xC000) ∧
    (Memory.wf v.mem, v.deliverable, v.halted, v.beginStep.pc) = (true, 0, false, 0xC000) := by decide +kernel

/-- The three clauses: a tick, an overflow, and no tick one step before and with the timer off. -/
theorem witness_TimerAdvanceCountsAndTicks :
    let s := fun (tac tima : Byte) (k : Nat) =>
      { placed (wit [] 0 0 0) [(0xFF07, tac), (0xFF05, tima), (0xFF06, 0x20)] with counter := k }
    Memory.wf (s 0x05 0xFF 15).mem = true ∧ (s 0x05 0xFE 15).timerAdvance.memRead 0xFF05 = 0xFF ∧
    (s 0x05 0xFF 15).timerAdvance.memRead 0xFF05 = 0x20 ∧ (s 0x05 0xFF 15).timerAdvance.memRead 0xFF0F = 0x04 ∧
    (s 0x05 0xFF 14).timerAdvance.memRead 0xFF05 = 0xFF ∧ (s 0x01 0xFF 15).timerAdvance.memRead 0xFF05 = 0xFF ∧
    (s 0x05 0xFF (2 ^ 64 - 1)).timerAdvance.counter = 0 := by decide +kernel

theorem witness_RunEndsInTheOrderOfOutcomes :
    let asked := fun w => { State.reset with console := { Console.empty with endRequested := some w } }
    let fuel := fun n => { State.reset with params := { Params.default with maxSteps := some n } }
    ({ asked .passed with fault := some { addr := 0xC000, byte := 0xFD } }).endOfRun =
      some (.illegalOpcode { addr := 0xC000, byte := 0xFD }) ∧
    ({ asked .passed with stopped := true }).endOfRun = some .passed ∧ (asked .failed).endOfRun = some .failed ∧
    ({ fuel 0 with stopped := true }).endOfRun = some .stopped ∧ (fuel 0).endOfRun = some .outOfFuel ∧
    (fuel 1).endOfRun = none ∧ (after (fuel 1)).console.stepsRun = 1 ∧ (after (fuel 1)).endOfRun = some .outOfFuel := by
  decide +kernel

theorem witness_reset_Inv : State.reset.Inv :=
  ⟨by decide, by decide, by decide, by decide, by decide, by decide, by decide⟩

theorem witness_StepKeepsInvariant : State.reset.Inv ∧ ∃ t, step State.reset = .next t :=
  ⟨witness_reset_Inv, _, rfl⟩

theorem witness_ResetAndLaunchMeetInvariant :
    ∃ t, launch LaunchConfig.default (some (image [0, 0xC3, 0x50, 1] Config.standardLogo 0xE7)) = .ok t := by
  unfold launch
  rw [witness_LaunchBeginsInResetState.1]
  exact ⟨_, rfl⟩

theorem witness_StepNeverChangesRom :
    Memory.wf State.reset.mem = true ∧ (∃ t, step State.reset = .next t) ∧ (0x7FFF : Word).toNat ≤ 0x7FFF ∧
    (0xFDFF : Word).toNat ≤ 0xFDFF ∧ 0xFEA0 ≤ (0xFEA0 : Word).toNat := ⟨by decide, ⟨_, rfl⟩, by decide, by decide, by decide⟩

theorem witness_EveryStepCountsOnce :
    (after State.reset).fault = none ∧ (after (wit [0xFD] 0 0 0)).fault ≠ none ∧
    (step State.reset, step (wit [0xFD] 0 0 0)) = (.next (after State.reset), .next (after (wit [0xFD] 0 0 0))) :=
  ⟨by decide +kernel, by decide +kernel, rfl⟩

theorem witness_MasterEnableRisesOnlyByEiOrReti :
    let s := { wit [0x00] 0 0 0 with eiCount := 1 }
    let u := wit [0xD9] 0 0 0xD000
    (s.ime, (after s).ime) = (false, true) ∧ (u.ime, (after u).ime) = (false, true) ∧ step s = .next (after s) ∧
    step u = .next (after u) := ⟨by decide +kernel, by decide +kernel, rfl, rfl⟩

theorem witness_LogsInfluenceNothing :
    (State.reset.warn .unmapped 0xE000).withoutLogs = State.reset.withoutLogs ∧
    State.reset.warn .unmapped 0xE000 ≠ State.reset := by decide

end Sys2Proof.Tests
end

section
/-! PROOF. The register file: F is its four flags with zeros below (R19, R21), and a pair is two registers (R15). -/

namespace Sys2Proof.Machine

section
variable (s : State)

/-! ### F is its four flags -/

/-- Behind a write of all four flags, each flag is the value written for it (R19). -/
theorem State.flag_setFlags (z n h c : Bool) (k : Flag) :
    (s.setFlags z n h c).flag k = match k with | .z => z | .n => n | .h => h | .c => c := by
  obtain ⟨hz, hn, hh, hc⟩ := flagsAre_setFlags s z n h c
  cases k
  · exact hz
  · exact hn
  · exact hh
  · exact hc

theorem Flag.bit_injective : Function.Injective Flag.bit := by
  intro j k
  cases j <;> cases k <;> simp [Flag.bit]

/-- A bit that is no flag lies in the low nibble or beyond the byte (R19). -/
theorem Flag.low_or_beyond_of_ne_bit {i : Nat} (hi : ∀ k : Flag, i ≠ k.bit) : i < 4 ∨ 8 ≤ i := by
  have hz : i ≠ 7 := hi .z
  have hn : i ≠ 6 := hi .n
  have hh : i ≠ 5 := hi .h
  have hc : i ≠ 4 := hi .c
  omega

/-- A bit of F that is no flag reads 0 (R21). -/
theorem getLsbD_reg_f_of_ne_bit {i : Nat} (hi : ∀ k : Flag, i ≠ k.bit) : (s.reg .f).getLsbD i = false := by
  obtain hlow | hbeyond := Flag.low_or_beyond_of_ne_bit hi
  · have hmask : (0x0F : Byte).getLsbD i = true := by interval_cases i <;> rfl
    have hbit : (s.reg .f &&& 0x0F).getLsbD i = false := by rw [State.reg_f_low]; exact BitVec.getLsbD_zero
    rwa [BitVec.getLsbD_and, hmask, Bool.and_true] at hbit
  · exact BitVec.getLsbD_of_ge _ _ hbeyond

/-- Writing one flag, the other three as they were, changes one bit of F and nothing else of it (R21). -/
theorem getLsbD_reg_f_of_one_flag {t : State} {k : Flag} {b : Bool} (h : ∀ j, t.flag j = if j = k then b else s.flag j)
    (i : Nat) : (t.reg .f).getLsbD i = if i = k.bit then b else (s.reg .f).getLsbD i := by
  by_cases hi : ∃ j : Flag, i = j.bit
  · obtain ⟨j, rfl⟩ := hi
    simp only [Flag.bit_injective.eq_iff]
    exact h j
  · have hno : ∀ j : Flag, i ≠ j.bit := fun j e => hi ⟨j, e⟩
    rw [if_neg (hno k), getLsbD_reg_f_of_ne_bit t hno, getLsbD_reg_f_of_ne_bit s hno]

/-! ### A pair is two registers -/

/-- The two halves of a register pair differ, and its high half is not F (R15). -/
theorem pair_halves_ne {hi lo : Reg8} (hp : (hi, lo) ∈ [(Reg8.a, Reg8.f), (.b, .c), (.d, .e), (.h, .l)]) :
    hi ≠ lo ∧ hi ≠ .f := by
  revert hp
  cases hi <;> cases lo <;> decide

/-- The high half behind a write of the pair (R15). -/
theorem reg_setPair_hi {hi lo : Reg8} (hn : hi ≠ lo) (hf : hi ≠ .f) (v : Word) :
    (s.setPair hi lo v).reg hi = v.hiByte :=
  (State.reg_setReg_ne _ hn _).trans (State.reg_setReg_self_of_ne_f s hf _)

/-- The low half behind a write of the pair (R15). -/
theorem reg_setPair_lo {hi lo : Reg8} (hf : lo ≠ .f) (v : Word) : (s.setPair hi lo v).reg lo = v.loByte :=
  State.reg_setReg_self_of_ne_f _ hf _

/-- A pair with F as its low half behind a write of it: F's mask clears the low nibble (R15, R21). -/
theorem pair_setPair_f {hi : Reg8} (hf : hi ≠ .f) (v : Word) : (s.setPair hi .f v).pair hi .f = v &&& 0xFFF0 := by
  have hlo : (s.setPair hi .f v).reg .f = v.loByte &&& 0xF0 := State.reg_setReg_same _ _ _
  unfold State.pair
  rw [reg_setPair_hi s hf hf, hlo, Word.ofBytes_mask]

end

/-! ### The obligations -/

/-- Settles O6: F reads back masked, and each one-bit clause writes one flag and the other three as they were. -/
theorem flagRegisterLowNibbleReadsZero : Obligations.FlagRegisterLowNibbleReadsZero := by
  intro s v z n h c
  refine ⟨State.reg_setReg_same s .f v, rfl, State.reg_f_low s, fun r hr => State.reg_setReg_ne s hr v,
    flagsAre_setFlags s z n h c, fun i _ => getLsbD_reg_f_of_one_flag s (k := .z) (fun j => ?_) i,
    fun i _ => getLsbD_reg_f_of_one_flag s (k := .n) (fun j => ?_) i,
    fun i _ => getLsbD_reg_f_of_one_flag s (k := .h) (fun j => ?_) i,
    fun i _ => getLsbD_reg_f_of_one_flag s (k := .c) (fun j => ?_) i⟩ <;>
  · rw [State.flag_setFlags]
    cases j <;> rfl

/-- Settles O7: the halves read back, and the pair with them, F's masked half apart. -/
theorem pairsAreViewsOfTwoRegisters : Obligations.PairsAreViewsOfTwoRegisters := by
  intro s hi lo v hp
  obtain ⟨hn, hf⟩ := pair_halves_ne hp
  refine ⟨Word.toNat_ofBytes _ _, ?_, reg_setPair_hi s hn hf v, fun hl => reg_setPair_lo s hl v,
    quiet_setPair s (by simp) (by simp) v, rfl⟩
  split
  · subst lo
    exact pair_setPair_f s hf v
  · exact pair_setPair s hn hf ‹lo ≠ .f› v

end Sys2Proof.Machine
end

section
/-! PROOF. Loads, stores and the stack: each instruction of 41_loads.md is one shared operation (Laws/Exec), and its frame is
that operation's (Laws/Frames). What is said here besides is how the fields of a first byte read back, and the frames of a
load of A and of a pair popped. -/

namespace Sys2Proof

/-! ### The fields of a first byte -/

section
variable (b : BitVec 2) (y z : BitVec 3)

@[simp] theorem opBlock_fields : opBlock (b ++ y ++ z) = b :=
  (BitVec.extractLsb'_append_eq_of_le (xhi := b ++ y) (by decide)).trans BitVec.extractLsb'_append_eq_left

@[simp] theorem opY_fields : opY (b ++ y ++ z) = y :=
  (BitVec.extractLsb'_append_eq_of_le (xhi := b ++ y) (by decide)).trans BitVec.extractLsb'_append_eq_right

@[simp] theorem opZ_fields : opZ (b ++ y ++ z) = z := BitVec.extractLsb'_append_eq_right (a := b ++ y)

end

end Sys2Proof

namespace Sys2Proof.Machine

/-! ### The residual patterns of the loads -/

/-- `01yyyzzz` (R65). -/
theorem encodes_ldOf (y z : BitVec 3) :
    Encodes (1#2 ++ y ++ z) 1 fun _ _ => Instr.ldOf (.ofField y) (.ofField z) :=
  ⟨by simp [opLength], fun n hi => by simp [decodeOp]⟩

/-- `00yyy110` (R64). -/
theorem encodes_ldImmOf (y : BitVec 3) : Encodes (0#2 ++ y ++ 6#3) 2 fun n _ => Instr.ldImmOf (.ofField y) n :=
  ⟨by simp [opLength], fun n hi => by simp [decodeOp, decodeBlock0]⟩

/-- `00pp0001` (R64). -/
theorem encodes_ldR16Of :
    ∀ p : BitVec 2, Encodes (0#2 ++ p ++ 1#4) 3 fun n hi => Instr.ldR16Of (.ofField p) (Word.ofBytes hi n) := by
  refine forall_bitVec2.2 ⟨?_, ?_, ?_, ?_⟩ <;> exact ⟨rfl, fun _ _ => rfl⟩

/-- `11pp0101` (R67). -/
theorem encodes_pushOf : ∀ p : BitVec 2, Encodes (3#2 ++ p ++ 5#4) 1 fun _ _ => Instr.pushOf (.ofField p) := by
  refine forall_bitVec2.2 ⟨?_, ?_, ?_, ?_⟩ <;> exact ⟨rfl, fun _ _ => rfl⟩

/-- `11pp0001` (R67). -/
theorem encodes_popOf : ∀ p : BitVec 2, Encodes (3#2 ++ p ++ 1#4) 1 fun _ _ => Instr.popOf (.ofField p) := by
  refine forall_bitVec2.2 ⟨?_, ?_, ?_, ?_⟩ <;> exact ⟨rfl, fun _ _ => rfl⟩

section
variable (s : State)

/-! ### A load of A -/

theorem State.reg_loadAAt_a (a : Word) : (s.loadAAt a).reg .a = s.memRead a := State.reg_setReg_same _ _ _

/-- A load of A changes A alone, and leaves the warning of its one read (R40). -/
theorem quiet_loadAAt {rs : List Reg8} (ha : Reg8.a ∈ rs) (a : Word) : Quiet rs (readWarnings a) s (s.loadAAt a) :=
  (quiet_noteRead s rs a).then (quiet_setReg _ ha _)

/-- A load of A leaves HL, so that the adjustment behind it counts from the address read (R78). -/
theorem State.hl_loadAAt (a : Word) : (s.loadAAt a).hl = s.hl := by
  have hq : Quiet [.a] (readWarnings a) s (s.loadAAt a) := quiet_loadAAt s (by simp) a
  unfold State.hl State.pair
  rw [hq.regs .h (by simp), hq.regs .l (by simp)]

/-- `LD A,[HL+]` (R78). -/
theorem State.loadA_atHLi : s.loadA .atHLi = (s.loadAAt s.hl).setHL (s.hl + 1) :=
  congrArg (fun w => (s.loadAAt s.hl).setHL (w + 1)) (s.hl_loadAAt s.hl)

/-- `LD A,[HL-]` (R78). -/
theorem State.loadA_atHLd : s.loadA .atHLd = (s.loadAAt s.hl).setHL (s.hl - 1) :=
  congrArg (fun w => (s.loadAAt s.hl).setHL (w - 1)) (s.hl_loadAAt s.hl)

/-- A load of A, then a write of HL: A keeps the byte loaded (R78). -/
theorem loadAAt_setHL_spec (a v : Word) :
    Quiet [.a, .h, .l] (readWarnings a) s ((s.loadAAt a).setHL v) ∧
    ((s.loadAAt a).setHL v).reg .a = s.memRead a ∧ ((s.loadAAt a).setHL v).pair .h .l = v := by
  have hhl : Quiet [.h, .l] [] (s.loadAAt a) ((s.loadAAt a).setHL v) := quiet_setHL _ (by simp) (by simp) v
  exact ⟨(quiet_loadAAt s (by simp) a).then (hhl.mono (by simp)),
    (hhl.regs .a (by simp)).trans (s.reg_loadAAt_a a), pair_setHL _ v⟩

/-! ### A pair popped -/

/-- The popped value written to a pair of registers: the low one from SP, masked where it is F, the high one from SP + 1
(R48, R88). -/
theorem popped_setPair_spec {hi lo : Reg8} (hn : hi ≠ lo) (hf : hi ≠ .f) :
    (s.popped.setPair hi lo s.popValue).reg hi = s.memRead (s.sp + 1) ∧
    (s.popped.setPair hi lo s.popValue).reg lo = regMask lo (s.memRead s.sp) ∧
    Pops [hi, lo] s (s.popped.setPair hi lo s.popValue) ∧
    (s.popped.setPair hi lo s.popValue).pc = s.pc ∧ ControlEq s (s.popped.setPair hi lo s.popValue) := by
  have hq : Quiet [hi, lo] [] s.popped (s.popped.setPair hi lo s.popValue) :=
    quiet_setPair _ (by simp) (by simp) _
  refine ⟨?_, ?_, ((pops_popped s).mono (by simp)).then hq, hq.pc.trans (State.popped_pc s),
    (control_popped s).trans hq.control⟩
  · rw [reg_setPair_hi _ hn hf, State.popValue, Word.hiByte_ofBytes]
  · rw [State.setPair, State.reg_setReg_same, State.popValue, Word.loByte_ofBytes]

end

/-! ### The obligations of the loads -/

/-- Settles O15: the source is read before the destination is written, through the operand rule for writes. -/
theorem ldR8R8CopiesTheOperand : Obligations.LdR8R8CopiesTheOperand :=
  ⟨fun y z _ => encodes_ldOf y z,
    fun dst src s hne hwf => ⟨s.ld8 dst src, exec_ldOf s hne, writesR8_writeR8 hwf dst src _ []⟩⟩

/-- Settles O16: the operand rule for writes, with nothing read. -/
theorem ldR8ImmediateWritesTheByte : Obligations.LdR8ImmediateWritesTheByte :=
  ⟨encodes_ldImmOf, fun dst n s hwf => ⟨s.ld8Imm dst n, exec_ldImmOf s dst n, writesR8_writeR8_imm hwf dst n []⟩⟩

/-- Settles O17: the pair rule for writes. -/
theorem ldR16ImmediateWritesThePair : Obligations.LdR16ImmediateWritesThePair :=
  ⟨encodes_ldR16Of, fun p v s => ⟨s.ld16Imm p v, exec_ldR16Of s p v, writesR16_writeR16 s p v⟩⟩

/-- Settles O18: one bus write at the pair's address, which `PostAdjust` follows with nothing. -/
theorem storeAThroughBCOrDE : Obligations.StoreAThroughBCOrDE :=
  ⟨⟨rfl, fun _ _ => rfl⟩, ⟨rfl, fun _ _ => rfl⟩, fun s hwf =>
    ⟨⟨s.storeA .atBC, exec_storeAOf s .atBC, stores_memWrite hwf [] (s.pair .b .c) (s.reg .a)⟩,
      ⟨s.storeA .atDE, exec_storeAOf s .atDE, stores_memWrite hwf [] (s.pair .d .e) (s.reg .a)⟩⟩⟩

/-- Settles O19: one load of A, behind which HL+ and HL- write HL. -/
theorem loadAThroughPair : Obligations.LoadAThroughPair := by
  refine ⟨⟨rfl, fun _ _ => rfl⟩, ⟨rfl, fun _ _ => rfl⟩, ⟨rfl, fun _ _ => rfl⟩, ⟨rfl, fun _ _ => rfl⟩, fun s =>
    ⟨⟨s.loadA .atBC, exec_loadAOf s .atBC, quiet_loadAAt s (by simp) _, s.reg_loadAAt_a _⟩,
      ⟨s.loadA .atDE, exec_loadAOf s .atDE, quiet_loadAAt s (by simp) _, s.reg_loadAAt_a _⟩,
      ⟨s.loadA .atHLi, exec_loadAOf s .atHLi, ?_⟩, ⟨s.loadA .atHLd, exec_loadAOf s .atHLd, ?_⟩⟩⟩
  · rw [State.loadA_atHLi]
    exact loadAAt_setHL_spec s _ _
  · rw [State.loadA_atHLd]
    exact loadAAt_setHL_spec s _ _

/-- Settles O23: a push of the pair's value. -/
theorem pushStoresThePair : Obligations.PushStoresThePair :=
  ⟨encodes_pushOf, fun p s hwf =>
    ⟨s.pushPair p, exec_pushOf s p, pushes_push16 hwf _, s.push16_pc _, control_push16 s _⟩⟩

/-- Settles O24: for each pair, the popped value written to its two registers. -/
theorem popLoadsThePair : Obligations.PopLoadsThePair :=
  ⟨encodes_popOf, fun s =>
    ⟨⟨s.popPair .bc, exec_popOf s .bc, popped_setPair_spec s (by decide) (by decide)⟩,
      ⟨s.popPair .de, exec_popOf s .de, popped_setPair_spec s (by decide) (by decide)⟩,
      ⟨s.popPair .hl, exec_popOf s .hl, popped_setPair_spec s (by decide) (by decide)⟩,
      ⟨s.popPair .af, exec_popOf s .af, popped_setPair_spec s (by decide) (by decide)⟩⟩⟩

end Sys2Proof.Machine
end

section
/-! PROOF. 8-bit arithmetic and logic: the accumulator operations of 42_alu8.md (R90 to R98) share one operation,
`State.acc`, in two forms. What it leaves is said once for both forms and all eight operations (`Accumulates`); each
obligation then reads off its operation's result and flags. -/

namespace Sys2Proof.Machine

/-! ### The residual patterns of the accumulator operations -/

/-- `10yyyzzz` and `11yyy110` (R66, R67, R90). -/
theorem encodesAlu_ofField (y : BitVec 3) : EncodesAlu (.ofField y) y :=
  ⟨fun z => ⟨by simp [opLength], fun n hi => by simp [decodeOp]⟩,
    by simp [opLength], fun n hi => by simp [decodeOp, decodeBlock3]⟩

/-! ### The adder and the subtractor -/

theorem beq_zero_eq_decide_toNat (x : Byte) : (x == 0) = decide (x.toNat = 0) := by
  rw [Bool.eq_iff_iff, beq_iff_eq, decide_eq_true_iff, BitVec.toNat_eq]
  rfl

theorem toNat_add8_value (a v : Byte) (c : Bool) :
    (add8 a v c).value.toNat = (a.toNat + v.toNat + c.toNat) % 256 := BitVec.toNat_ofNat _ _

theorem toNat_sub8_value (a v : Byte) (c : Bool) :
    ((sub8 a v c).value.toNat : Int) = ((a.toNat : Int) - v.toNat - c.toNat) % 256 := by
  rw [sub8, BitVec.toNat_ofInt]
  omega

/-- The adder's Z: the exact sum is 0 modulo 256 (R91, R92). -/
theorem add8_value_beq_zero (a v : Byte) (c : Bool) :
    ((add8 a v c).value == 0) = decide ((a.toNat + v.toNat + c.toNat) % 256 = 0) := by
  rw [beq_zero_eq_decide_toNat, toNat_add8_value]

/-- The subtractor's Z: the exact difference is 0 modulo 256 (R93, R94). -/
theorem sub8_value_beq_zero (a v : Byte) (c : Bool) :
    ((sub8 a v c).value == 0) = decide (((a.toNat : Int) - v.toNat - c.toNat) % 256 = 0) := by
  rw [beq_zero_eq_decide_toNat, ← toNat_sub8_value]
  simp

/-- The new F of an accumulator operation is four flags over zeros, which the mask on F keeps (R21). -/
theorem aluResult_f_mask (op : AluOp) (a v : Byte) (c : Bool) :
    (aluResult op a v c).2 &&& 0xF0 = (aluResult op a v c).2 := by
  cases op <;> exact packFlags_mask _ _ _ _

/-- F read as the four flags packed into it (R19). -/
theorem flagsAre_of_reg_f {t : State} {z n h c : Bool} (hf : t.reg .f = packFlags z n h c) : FlagsAre t z n h c := by
  simp [FlagsAre, State.flag, hf]

/-! ### What an accumulator operation leaves -/

/-- The registers an accumulator operation writes: A and F, for CP F alone (R90, R98). -/
def aluWrites (op : AluOp) : List Reg8 := if aluWritesA op then [.a, .f] else [.f]

/-- What an accumulator operation on the operand value `v` leaves: its result in A where it writes A, its flags in F, and
nothing else changed but the warnings `ws` of the operand's read (R90). -/
structure Accumulates (op : AluOp) (v : Byte) (ws : List Warning) (s t : State) : Prop where
  a     : aluWritesA op = true → t.reg .a = (aluResult op (s.reg .a) v (s.flag .c)).1
  f     : t.reg .f = (aluResult op (s.reg .a) v (s.flag .c)).2
  quiet : Quiet (aluWrites op) ws s t

section
variable (s : State)

theorem quiet_acc (op : AluOp) (v : Byte) : Quiet (aluWrites op) [] s (s.acc op v) := by
  unfold State.acc aluWrites
  split
  · exact (quiet_setReg s (by simp) _).then (quiet_setReg _ (by simp) _)
  · exact quiet_setReg s (by simp) _

theorem accumulates_acc (op : AluOp) (v : Byte) : Accumulates op v [] s (s.acc op v) where
  a hop := by
    rw [State.acc, if_pos hop, State.reg_setReg_ne _ (by decide), State.reg_setReg_same, regMask_a]
  f := by rw [State.acc, State.reg_setReg_same, regMask_f, aluResult_f_mask]
  quiet := quiet_acc s op v

/-- The form with an r8 operand, whose read only warns (R55, R90). -/
theorem accumulates_accR8 (op : AluOp) (r : R8) :
    Accumulates op (s.readR8 r) (r8Warnings s r) s (s.accR8 op r) := by
  obtain ⟨ha, hf, hquiet⟩ := accumulates_acc (s.noteR8 r) op (s.readR8 r)
  rw [State.noteR8_reg, State.noteR8_flag] at ha hf
  exact ⟨ha, hf, (quiet_noteR8 s _ r).then hquiet⟩

/-- The form with an immediate operand, which reads nothing (R90). -/
theorem accumulates_accImm (op : AluOp) (n : Byte) : Accumulates op n [] s (s.accImm op n) := accumulates_acc s op n

end

namespace Accumulates

variable {op : AluOp} {v x : Byte} {ws : List Warning} {s t : State} {z n h c : Bool}

/-- An operation that writes A, from its result and its four flags (R91 to R97). -/
theorem gives (hacc : Accumulates op v ws s t) (hop : aluWritesA op = true)
    (hres : aluResult op (s.reg .a) v (s.flag .c) = (x, packFlags z n h c)) :
    t.reg .a = x ∧ FlagsAre t z n h c ∧ Quiet [.a, .f] ws s t := by
  obtain ⟨ha, hf, hquiet⟩ := hacc
  rw [hres] at ha hf
  rw [aluWrites, if_pos hop] at hquiet
  exact ⟨ha hop, flagsAre_of_reg_f hf, hquiet⟩

/-- An addition with the carry `c`, which for ADD is 0 (R91, R92). -/
theorem adds (hacc : Accumulates op v ws s t) (hop : aluWritesA op = true)
    (hres : aluResult op (s.reg .a) v (s.flag .c) = aluResult .adc (s.reg .a) v c) :
    (t.reg .a).toNat = ((s.reg .a).toNat + v.toNat + c.toNat) % 256 ∧ AddFlags (s.reg .a) v c.toNat t ∧
      Quiet [.a, .f] ws s t := by
  obtain ⟨ha, hflags, hquiet⟩ := hacc.gives hop hres
  rw [add8_value_beq_zero] at hflags
  exact ⟨by rw [ha, toNat_add8_value], hflags, hquiet⟩

/-- A subtraction with the borrow `c`, which for SUB is 0 (R93, R94). -/
theorem subs (hacc : Accumulates op v ws s t) (hop : aluWritesA op = true)
    (hres : aluResult op (s.reg .a) v (s.flag .c) = aluResult .sbc (s.reg .a) v c) :
    ((t.reg .a).toNat : Int) = ((s.reg .a).toNat - v.toNat - c.toNat) % 256 ∧ SubFlags (s.reg .a) v c.toNat t ∧
      Quiet [.a, .f] ws s t := by
  obtain ⟨ha, hflags, hquiet⟩ := hacc.gives hop hres
  rw [sub8_value_beq_zero] at hflags
  exact ⟨by rw [ha, toNat_sub8_value], hflags, hquiet⟩

/-- A comparison: the flags of a subtraction without a borrow, F alone written (R98). -/
theorem compares (hacc : Accumulates .cp v ws s t) : SubFlags (s.reg .a) v 0 t ∧ Quiet [.f] ws s t := by
  have hflags := flagsAre_of_reg_f hacc.f
  rw [sub8_value_beq_zero] at hflags
  exact ⟨hflags, hacc.quiet⟩

/-- CP and SUB of one operand leave the same F (R98). -/
theorem cp_f_eq_sub_f {us : List Warning} {u : State} (hcp : Accumulates .cp v ws s t) (hsub : Accumulates .sub v us s u) :
    t.reg .f = u.reg .f := hcp.f.trans hsub.f.symm

end Accumulates

/-! ### The obligations of the accumulator operations -/

/-- Settles O25: ADC's result with the flag C, and ADD's as ADC's with no carry. -/
theorem addAndAdcAddIntoA : Obligations.AddAndAdcAddIntoA :=
  ⟨encodesAlu_ofField 0, encodesAlu_ofField 1, fun s =>
    ⟨fun r => ⟨s.accR8 .add r, exec_aluOf s .add r, (accumulates_accR8 s .add r).adds (c := false) rfl rfl⟩,
      fun n => ⟨s.accImm .add n, exec_aluImmOf s .add n, (accumulates_accImm s .add n).adds (c := false) rfl rfl⟩,
      fun r => ⟨s.accR8 .adc r, exec_aluOf s .adc r, (accumulates_accR8 s .adc r).adds rfl rfl⟩,
      fun n => ⟨s.accImm .adc n, exec_aluImmOf s .adc n, (accumulates_accImm s .adc n).adds rfl rfl⟩⟩⟩

/-- Settles O26: SBC's result with the flag C, and SUB's as SBC's with no borrow. -/
theorem subAndSbcSubtractFromA : Obligations.SubAndSbcSubtractFromA :=
  ⟨encodesAlu_ofField 2, encodesAlu_ofField 3, fun s =>
    ⟨fun r => ⟨s.accR8 .sub r, exec_aluOf s .sub r, (accumulates_accR8 s .sub r).subs (c := false) rfl rfl⟩,
      fun n => ⟨s.accImm .sub n, exec_aluImmOf s .sub n, (accumulates_accImm s .sub n).subs (c := false) rfl rfl⟩,
      fun r => ⟨s.accR8 .sbc r, exec_aluOf s .sbc r, (accumulates_accR8 s .sbc r).subs rfl rfl⟩,
      fun n => ⟨s.accImm .sbc n, exec_aluImmOf s .sbc n, (accumulates_accImm s .sbc n).subs rfl rfl⟩⟩⟩

/-- Settles O27: each result with the flags forced for it. -/
theorem logicOperationsCombineIntoA : Obligations.LogicOperationsCombineIntoA :=
  ⟨encodesAlu_ofField 4, encodesAlu_ofField 5, encodesAlu_ofField 6, fun s =>
    ⟨fun r => ⟨s.accR8 .and r, exec_aluOf s .and r, (accumulates_accR8 s .and r).gives rfl rfl⟩,
      fun n => ⟨s.accImm .and n, exec_aluImmOf s .and n, (accumulates_accImm s .and n).gives rfl rfl⟩,
      fun r => ⟨s.accR8 .xor r, exec_aluOf s .xor r, (accumulates_accR8 s .xor r).gives rfl rfl⟩,
      fun n => ⟨s.accImm .xor n, exec_aluImmOf s .xor n, (accumulates_accImm s .xor n).gives rfl rfl⟩,
      fun r => ⟨s.accR8 .or r, exec_aluOf s .or r, (accumulates_accR8 s .or r).gives rfl rfl⟩,
      fun n => ⟨s.accImm .or n, exec_aluImmOf s .or n, (accumulates_accImm s .or n).gives rfl rfl⟩⟩⟩

/-- Settles O28: the flags of a subtraction, and the same F as SUB's of the same operand. -/
theorem cpSetsTheFlagsOfSub : Obligations.CpSetsTheFlagsOfSub :=
  ⟨encodesAlu_ofField 7, fun s =>
    ⟨fun r => ⟨s.accR8 .cp r, exec_aluOf s .cp r, (accumulates_accR8 s .cp r).compares⟩,
      fun n => ⟨s.accImm .cp n, exec_aluImmOf s .cp n, (accumulates_accImm s .cp n).compares⟩,
      fun r => ⟨s.accR8 .cp r, s.accR8 .sub r, exec_aluOf s .cp r, exec_aluOf s .sub r,
        (accumulates_accR8 s .cp r).cp_f_eq_sub_f (accumulates_accR8 s .sub r)⟩,
      fun n => ⟨s.accImm .cp n, s.accImm .sub n, exec_aluImmOf s .cp n, exec_aluImmOf s .sub n,
        (accumulates_accImm s .cp n).cp_f_eq_sub_f (accumulates_accImm s .sub n)⟩⟩⟩

end Sys2Proof.Machine
end

section
/-! PROOF. 16-bit arithmetic: INC, DEC and ADD of 43_alu16.md (R105 to R107). An INC or a DEC is one write of the pair; ADD HL
writes HL and then F, which is said once for every value and all four flags. -/

namespace Sys2Proof.Machine

/-! ### The residual patterns of 16-bit arithmetic -/

/-- `00pp0011` (R64). -/
theorem encodes_incR16Of : ∀ p : BitVec 2, Encodes (0#2 ++ p ++ 3#4) 1 fun _ _ => Instr.incR16Of (.ofField p) := by
  refine forall_bitVec2.2 ⟨?_, ?_, ?_, ?_⟩ <;> exact ⟨rfl, fun _ _ => rfl⟩

/-- `00pp1011` (R64). -/
theorem encodes_decR16Of : ∀ p : BitVec 2, Encodes (0#2 ++ p ++ 11#4) 1 fun _ _ => Instr.decR16Of (.ofField p) := by
  refine forall_bitVec2.2 ⟨?_, ?_, ?_, ?_⟩ <;> exact ⟨rfl, fun _ _ => rfl⟩

/-- `00pp1001` (R64). -/
theorem encodes_addHLOf : ∀ p : BitVec 2, Encodes (0#2 ++ p ++ 9#4) 1 fun _ _ => Instr.addHLOf (.ofField p) := by
  refine forall_bitVec2.2 ⟨?_, ?_, ?_, ?_⟩ <;> exact ⟨rfl, fun _ _ => rfl⟩

/-! ### Words modulo 2^16 -/

/-- One more, which is 0x0000 behind 0xFFFF (R105). -/
theorem toNat_word_add_one (w : Word) : (w + 1).toNat = (w.toNat + 1) % 65536 := BitVec.toNat_add w 1

/-- One less, which is 0xFFFF behind 0x0000 (R106). -/
theorem toNat_word_sub_one (w : Word) : (w - 1).toNat = (w.toNat + 65535) % 65536 := by
  rw [BitVec.toNat_sub, Nat.add_comm]
  rfl

/-- The sum is taken modulo 2^16 (R107). -/
theorem toNat_addHLResult (hl v : Word) (z : Bool) :
    (addHLResult hl v z).1.toNat = (hl.toNat + v.toNat) % 65536 := BitVec.toNat_ofNat _ _

/-! ### HL and F written -/

/-- A write of HL, then one of all four flags: F is no half of HL, so the word stays. -/
theorem setHL_setReg_packFlags_spec (s : State) (w : Word) (z n h c : Bool) :
    ((s.setHL w).setReg .f (packFlags z n h c)).pair .h .l = w ∧
    FlagsAre ((s.setHL w).setReg .f (packFlags z n h c)) z n h c ∧
    Quiet [.h, .l, .f] [] s ((s.setHL w).setReg .f (packFlags z n h c)) := by
  have hhl : Quiet [.h, .l, .f] [] s (s.setHL w) := quiet_setHL s (by simp) (by simp) w
  refine ⟨?_, flagsAre_setReg_packFlags _ z n h c, hhl.then (quiet_setReg _ (by simp) _)⟩
  rw [State.pair, State.reg_setReg_ne _ (by decide), State.reg_setReg_ne _ (by decide)]
  exact pair_setHL s w

/-! ### The obligations of 16-bit arithmetic -/

/-- Settles O33: the pair rule for writes, whose frame leaves F out. -/
theorem incAndDecR16WriteNoFlag : Obligations.IncAndDecR16WriteNoFlag :=
  ⟨encodes_incR16Of, encodes_decR16Of, fun p s =>
    ⟨⟨s.inc16 p, s.readR16 p + 1, exec_incR16Of s p, toNat_word_add_one _, writesR16_writeR16 s p _⟩,
      ⟨s.dec16 p, s.readR16 p - 1, exec_decR16Of s p, toNat_word_sub_one _, writesR16_writeR16 s p _⟩⟩⟩

/-- Settles O34: both operands are read before HL is written, so ADD HL,HL is no case apart. -/
theorem addHLAddsThePair : Obligations.AddHLAddsThePair := by
  refine ⟨encodes_addHLOf, fun p s => ⟨s.addHL p, exec_addHLOf s p, ?_⟩⟩
  obtain ⟨hpair, hflags, hquiet⟩ := setHL_setReg_packFlags_spec s (addHLResult s.hl (s.readR16 p) (s.flag .z)).1 _ _ _ _
  exact ⟨(congrArg BitVec.toNat hpair).trans (toNat_addHLResult _ _ _), hflags, hquiet⟩

end Sys2Proof.Machine
end

section
/-! PROOF. Calls and returns of 45_control.md (R131 to R133): a taken call is a push and a taken return a pop (Laws/Frames),
each with PC written behind it; one that is not taken leaves the state itself. -/

namespace Sys2Proof.Machine

/-! ### The residual patterns of calls and returns -/

/-- `110cc100` (R67). -/
theorem encodes_callCcOf :
    ∀ c : BitVec 2, Encodes (6#3 ++ c ++ 4#3) 3 fun n hi => Instr.callCcOf (.ofField c) (Word.ofBytes hi n) := by
  refine forall_bitVec2.2 ⟨?_, ?_, ?_, ?_⟩ <;> exact ⟨rfl, fun _ _ => rfl⟩

/-- `110cc000` (R67). -/
theorem encodes_retCcOf : ∀ c : BitVec 2, Encodes (6#3 ++ c ++ 0#3) 1 fun _ _ => Instr.retCcOf (.ofField c) := by
  refine forall_bitVec2.2 ⟨?_, ?_, ?_, ?_⟩ <;> exact ⟨rfl, fun _ _ => rfl⟩

/-! ### PC written behind a push or a pop -/

/-- The frame of a push says nothing of PC, which a call writes last (R130). -/
theorem Pushes.setPC {v : Word} {s t : State} (h : Pushes v s t) (a : Word) : Pushes v s (t.setPC a) :=
  ⟨h.regs, h.sp, h.mem, h.console⟩

/-- The frame of a pop says nothing of PC, which a return writes last (R132). -/
theorem Pops.setPC {rs : List Reg8} {s t : State} (h : Pops rs s t) (a : Word) : Pops rs s (t.setPC a) :=
  ⟨h.regs, h.sp, h.mem, h.console⟩

/-! ### Calls and returns, taken or not -/

/-- A taken call (R130). -/
theorem callTo_spec {s : State} (hwf : Memory.wf s.mem = true) (a : Word) :
    Pushes s.pc s (s.callTo a) ∧ (s.callTo a).pc = a ∧ ControlEq s (s.callTo a) :=
  ⟨(pushes_push16 hwf s.pc).setPC a, rfl, control_callTo s a⟩

/-- A taken return (R132). -/
theorem ret_spec (s : State) :
    s.ret.pc = Word.ofBytes (s.memRead (s.sp + 1)) (s.memRead s.sp) ∧ Pops [] s s.ret ∧ ControlEq s s.ret :=
  ⟨rfl, (pops_popped s).setPC s.popValue, control_ret s⟩

section
variable {s : State} {cc : Cond}

theorem State.callIf_of_cond (h : s.cond cc = true) (a : Word) : s.callIf cc a = s.callTo a := if_pos h

theorem State.callIf_of_not_cond (h : s.cond cc = false) (a : Word) : s.callIf cc a = s :=
  if_neg (ne_true_of_eq_false h)

theorem State.retIf_of_cond (h : s.cond cc = true) : s.retIf cc = s.ret := if_pos h

theorem State.retIf_of_not_cond (h : s.cond cc = false) : s.retIf cc = s := if_neg (ne_true_of_eq_false h)

end

/-! ### The obligations of calls and returns -/

/-- Settles O43: the call where the condition holds, and the same state where it does not. -/
theorem conditionalCallTestsTheFlag : Obligations.ConditionalCallTestsTheFlag := by
  refine ⟨encodes_callCcOf, fun cc a s hwf => ⟨s.callIf cc a, exec_callCcOf s cc a, fun htaken => ?_, fun hnot => ?_⟩⟩
  · rw [State.callIf_of_cond htaken]
    exact callTo_spec hwf a
  · exact State.callIf_of_not_cond hnot a

/-- Settles O44: RET, and RET cc as RET where the condition holds and the same state where it does not. -/
theorem retPopsPC : Obligations.RetPopsPC := by
  refine ⟨⟨rfl, fun _ _ => rfl⟩, encodes_retCcOf, fun s => ⟨⟨s.ret, rfl, ret_spec s⟩, fun cc =>
    ⟨s.retIf cc, exec_retCcOf s cc, fun htaken => ?_, State.retIf_of_not_cond⟩⟩⟩
  rw [State.retIf_of_cond htaken]
  exact ret_spec s

end Sys2Proof.Machine
end

section
/-! PROOF. The round trip of the encoder and the decoder (30_encoding.md R60 to R69), both ways: an instruction's bytes decode to it
by a case for each row, and what three bytes decode to is written as they are by a case for each value of the first byte's
fields. The unrecognised opcodes and 0xCB follow from the same two facts. -/

namespace Sys2Proof.Machine

/-! ### From an instruction to its bytes and back -/

/-- An instruction with a 16-bit immediate reads back, low byte first (R62). -/
theorem decode_word {op : Byte} {i : Word → Instr} (h : Encodes op 3 fun n hi => i (.ofBytes hi n)) (w : Word)
    (rest : List Byte) : decode (op :: w.loByte :: w.hiByte :: rest) = .ok (i w, rest) := by
  obtain ⟨hlen, hop⟩ := h
  simp only [decode, hlen, hop, Word.ofBytes_bytes]

/-- Settles O2: an immediate word is read back from its two bytes; every other row computes. -/
theorem decodeInvertsEncode : Obligations.DecodeInvertsEncode := by
  intro i rest hwf
  cases i with
  | prefix_CB s => cases hwf
  | ld_BC_n16 w | ld_DE_n16 w | ld_HL_n16 w | ld_SP_n16 w | ld_atN16_SP w | ld_atN16_A w | ld_A_atN16 w
  | jp_n16 w | jp_NZ_n16 w | jp_Z_n16 w | jp_NC_n16 w | jp_C_n16 w
  | call_n16 w | call_NZ_n16 w | call_Z_n16 w | call_NC_n16 w | call_C_n16 w =>
    exact decode_word ⟨rfl, fun _ _ => rfl⟩ w rest
  | _ => rfl

/-! ### From bytes to an instruction and back -/

/-- The instruction has the bytes `bs` and is their one name (R142). -/
def Writes (i : Instr) (bs : List Byte) : Prop := i.wellFormed = true ∧ encode i = bs

/-- The 256 instructions behind 0xCB (R68): a case for each value of the second byte's fields. -/
theorem writes_decodePrefixed : ∀ s : Byte, Writes (decodePrefixed s) [0xCB, s] := by
  refine forall_byte fun b y z => ?_
  revert b y z
  refine forall_bitVec2.2 ⟨?_, ?_, ?_, ?_⟩ <;> refine forall_bitVec3.2 ⟨?_, ?_, ?_, ?_, ?_, ?_, ?_, ?_⟩ <;>
    exact forall_bitVec3.2 ⟨⟨rfl, rfl⟩, ⟨rfl, rfl⟩, ⟨rfl, rfl⟩, ⟨rfl, rfl⟩, ⟨rfl, rfl⟩, ⟨rfl, rfl⟩, ⟨rfl, rfl⟩, ⟨rfl, rfl⟩⟩

/-- What the first byte and an immediate word behind it decode to has those bytes, as many as the first byte tells (R60): a case
for each value of the fields, 0xCB apart. -/
theorem writes_decodeOp_word (op : Byte) (w : Word) :
    Writes (decodeOp op w.loByte w.hiByte) ([op, w.loByte, w.hiByte].take (opLength op)) := by
  unfold decodeOp decodeBlock0 decodeBlock3
  simp only [Word.ofBytes_bytes]
  revert op
  refine forall_byte fun b y z => ?_
  revert b y z
  refine forall_bitVec2.2 ⟨?_, ?_, ?_, ?_⟩ <;> refine forall_bitVec3.2 ⟨?_, ?_, ?_, ?_, ?_, ?_, ?_, ?_⟩
  case refine_4.refine_2 =>
    exact forall_bitVec3.2 ⟨⟨rfl, rfl⟩, ⟨rfl, rfl⟩, ⟨rfl, rfl⟩, writes_decodePrefixed w.loByte, ⟨rfl, rfl⟩, ⟨rfl, rfl⟩,
      ⟨rfl, rfl⟩, ⟨rfl, rfl⟩⟩
  all_goals
    exact forall_bitVec3.2 ⟨⟨rfl, rfl⟩, ⟨rfl, rfl⟩, ⟨rfl, rfl⟩, ⟨rfl, rfl⟩, ⟨rfl, rfl⟩, ⟨rfl, rfl⟩, ⟨rfl, rfl⟩, ⟨rfl, rfl⟩⟩

theorem writes_decodeOp (op n hi : Byte) : Writes (decodeOp op n hi) ([op, n, hi].take (opLength op)) := by
  simpa only [Word.loByte_ofBytes, Word.hiByte_ofBytes] using writes_decodeOp_word op (.ofBytes hi n)

/-- What decodes is a first byte with as many bytes as it tells, and those behind it (R60, R64). -/
theorem decode_eq_ok {bs rest : List Byte} {i : Instr} (h : decode bs = .ok (i, rest)) :
    ∃ op n hi, i = decodeOp op n hi ∧ bs = [op, n, hi].take (opLength op) ++ rest := by
  unfold decode at h
  split at h
  · cases h
  · rename_i op _
    split at h <;> cases h <;> rename_i hlen
    · exact ⟨op, 0, 0, rfl, by rw [hlen]; rfl⟩
    · exact ⟨op, _, 0, rfl, by rw [hlen]; rfl⟩
    · exact ⟨op, _, _, rfl, by rw [hlen]; rfl⟩

theorem length_take_opLength (op n hi : Byte) : ([op, n, hi].take (opLength op)).length = opLength op := by
  obtain h | h | h := opLength_range op <;> rw [h] <;> rfl

/-- Settles O3: the bytes are those that the first byte tells, and the instruction writes them. -/
theorem encodeInvertsDecode : Obligations.EncodeInvertsDecode := by
  intro bs i rest h
  obtain ⟨op, n, hi, rfl, rfl⟩ := decode_eq_ok h
  obtain ⟨hwf, henc⟩ := writes_decodeOp op n hi
  have hlen := opLength_range op
  rw [henc, length_take_opLength]
  exact ⟨hwf, rfl, by omega, by omega⟩

/-- Settles O1: each word computes. -/
theorem writtenWordsDecode : Obligations.WrittenWordsDecode :=
  ⟨rfl, rfl, rfl, rfl, rfl, rfl, rfl, rfl, rfl, rfl, rfl, rfl, rfl, rfl, rfl, rfl, rfl, rfl, rfl, rfl, rfl, rfl, rfl⟩

/-! ### The unrecognised opcodes -/

/-- The operations that write the control state, named (R24 to R28). -/
theorem Op.control_or (o : Op) (s : State) :
    ControlEq s (o.run s) ∨ o = .reti ∨ o = .halt ∨ o = .stop ∨ o = .di ∨ o = .ei ∨ ∃ op, o = .illegal op := by
  cases ho : o.writesControl with
  | false => exact .inl (o.control s ho)
  | true =>
    right
    cases o with
    | reti | halt | stop | di | ei | illegal => simp
    | _ => cases ho

/-- STOP touches `stopped` alone, and that with `STOP_MODE = HANG` only (R139). -/
theorem State.stop_eq (s : State) :
    s.stop = { s with stopped := s.stopped || decide (s.params.stopMode = .hang) } := by
  unfold State.stop
  split <;> rename_i h <;> simp [h, State.setStopped]

/-- An operation that is not one of the unrecognised opcodes leaves the fault as it was (R145). -/
theorem Op.fault_run (o : Op) (s : State) : (o.run s).fault = s.fault ∨ ∃ op, o = .illegal op := by
  obtain h | rfl | rfl | rfl | rfl | rfl | h := o.control_or s
  · exact .inl h.fault
  · exact .inl (State.popped_fault s)
  · exact .inl rfl
  · exact .inl (by rw [Op.run, State.stop_eq])
  · exact .inl rfl
  · exact .inl rfl
  · exact .inr h

/-- Each of the 11 bytes is an instruction of one byte that raises the fault (R69, R143). -/
theorem illegal_of_mem {op : Byte} (h : op ∈ illegalBytes) :
    opLength op = 1 ∧ ∀ n hi s, exec (decodeOp op n hi) s = .next (s.raiseIllegalOpcode op) := by
  simp only [illegalBytes, List.mem_cons, List.not_mem_nil, or_false] at h
  obtain rfl | rfl | rfl | rfl | rfl | rfl | rfl | rfl | rfl | rfl | rfl := h <;> exact ⟨rfl, fun _ _ _ => rfl⟩

/-- Settles O4: an instruction that raises the fault is the one byte of R69 that its first byte is. -/
theorem unrecognisedOpcodesAreTheEleven : Obligations.UnrecognisedOpcodesAreTheEleven := by
  intro op n hi s hs
  constructor
  · rintro ⟨t, f, hexec, hf⟩
    obtain ⟨o, hrun, -, hillegal⟩ := exec_eq_run (decodeOp op n hi)
    rw [hrun] at hexec
    cases hexec
    obtain hsame | ⟨b, rfl⟩ := o.fault_run s
    · rw [hsame, hs] at hf
      cases hf
    · obtain ⟨henc, hb⟩ := hillegal b rfl
      rw [(writes_decodeOp op n hi).2] at henc
      obtain h | h | h := opLength_range op <;> rw [h] at henc <;> cases henc
      exact hb
  · exact fun h => ⟨_, _, (illegal_of_mem h).2 n hi s, rfl⟩

/-! ### The byte 0xCB -/

@[simp] theorem State.writeR8_pc (s : State) (r : R8) (v : Byte) : (s.writeR8 r v).pc = s.pc := by
  unfold State.writeR8
  split
  · rfl
  · exact State.memWrite_pc s _ _

@[simp] theorem State.noteR8_pc (s : State) (r : R8) : (s.noteR8 r).pc = s.pc := (quiet_noteR8 s [] r).pc

theorem State.prefixed_pc (s : State) (b : Byte) : (s.prefixed b).pc = s.pc := by
  unfold State.prefixed
  split <;> simp [State.rot, State.bitTest, State.bitReset, State.bitSet, State.setFlags]

/-- Settles O5: both names of the two bytes run the operation that the second byte selects. -/
theorem prefixRunsSelectedInstruction : Obligations.PrefixRunsSelectedInstruction :=
  ⟨rfl, fun b _ s => ⟨s.prefixed b, rfl, exec_prefixed s b, s.prefixed_pc b, Op.control (.prefixed b) s rfl⟩⟩

end Sys2Proof.Machine
end

section
/-! PROOF. The stages of a step (60_exceptions.md R149): what the start of a step, the instruction and the end of a step each leave
of the registers and of the control state, and the statements about one step that follow: the fetch and the execution (R149),
HALT (R153), the interrupt entry (R154 to R156), the timer (R160, R161), the fault (R145) and the end of a run (R177). -/

namespace Sys2Proof.Machine

/-! ### Cells past the bus -/

theorem cell_of_writable {a : Word} (h : writable a = true) (s : State) : s.cell a = s.memRead a := by
  have hk : (Region.of a).kind = .cells := of_decide_eq_true h
  rw [State.memRead, hk]

/-- Reading behind a direct change of a cell (R37, R40). -/
theorem memRead_setCell {s : State} (hwf : Memory.wf s.mem = true) {a : Word} (h : writable a = true) (v : Byte)
    (x : Word) : (s.setCell a v).memRead x = if x = a then v else s.memRead x := by
  have hmem : s.setCell a v = s.setMem (s.memAfterWrite a v) := by rw [State.memAfterWrite, if_pos h]; rfl
  rw [hmem, State.memRead_memAfterWrite hwf]
  simp only [h, and_true]

/-! ### The end of a step -/

section
variable (s : State)

/-- The end of a step touches the timer's counters and the memory alone (R149). -/
theorem endStep_fields :
    s.endStep = { s with counter := s.endStep.counter, lastTick := s.endStep.lastTick, mem := s.endStep.mem } := by
  obtain ⟨-, h⟩ | ⟨-, h⟩ := endStep_cases s
  · rw [h, (timerAdvance_fields s).1]
  · rw [h]

@[simp] theorem State.endStep_regs : s.endStep.regs = s.regs := by rw [endStep_fields]
@[simp] theorem State.endStep_ime : s.endStep.ime = s.ime := by rw [endStep_fields]
@[simp] theorem State.endStep_eiCount : s.endStep.eiCount = s.eiCount := by rw [endStep_fields]
@[simp] theorem State.endStep_stopped : s.endStep.stopped = s.stopped := by rw [endStep_fields]
@[simp] theorem State.endStep_fault : s.endStep.fault = s.fault := by rw [endStep_fields]
@[simp] theorem State.endStep_console : s.endStep.console = s.console := by rw [endStep_fields]
@[simp] theorem State.endStep_params : s.endStep.params = s.params := by rw [endStep_fields]

theorem endStep_of_fault_none (h : s.fault = none) : s.endStep = s.timerAdvance := by rw [State.endStep, h]

/-! ### The start of a step -/

/-- What the service of an interrupt writes (R156); the push changes memory and the host's records as it does on the core
before. -/
theorem service_eq (i : IrqSource) :
    s.service i = { s with
      ime := false, eiCount := 0, sp := s.sp - 2, pc := i.vector
      mem := (s.push16 s.pc).mem.write addrIF.toNat ((s.push16 s.pc).cell addrIF &&& ~~~ i.mask)
      console := (s.push16 s.pc).console } := by
  unfold State.service State.push16
  simp only [State.memWrite_eq]
  rfl

/-- The start of a step: the promotion and the wake-up, and one service exactly when IME is set and a request is deliverable
(R149, R154). -/
theorem beginStep_cases :
    (s.eiPromote.ime = true ∧ s.pending ≠ 0 ∧
      ∃ i, lowestSource s.pending = some i ∧ s.beginStep = s.eiPromote.wake.service i) ∨
    ((s.eiPromote.ime = false ∨ s.pending = 0) ∧ s.beginStep = s.eiPromote.wake) := by
  have h := interruptCheck_cases s.eiPromote
  rwa [pending_eiPromote] at h

/-- Behind the promotion and the wake-up nothing but IME, the pending EI and `halted` has changed (R152, R153). -/
theorem eiPromote_wake_eq :
    s.eiPromote.wake = { s with
      ime := s.ime || decide (s.eiCount = 1), eiCount := if s.eiCount = 2 then 1 else 0
      halted := s.halted && decide (s.pending = 0) } := by
  rw [wake_eq, pending_eiPromote, eiPromote_eq]

/-- What the start of a step leaves of every state (R149). -/
theorem beginStep_keeps :
    s.beginStep.regs = s.regs ∧ s.beginStep.fault = s.fault ∧ s.beginStep.stopped = s.stopped ∧
    s.beginStep.eiCount ≤ s.eiCount ∧ (s.beginStep.ime = true → s.eiPromote.ime = true) := by
  have hei : (if s.eiCount = 2 then 1 else 0 : Fin 3) ≤ s.eiCount := by
    generalize s.eiCount = n
    revert n
    decide
  obtain ⟨-, -, i, -, h⟩ | ⟨-, h⟩ := beginStep_cases s
  · rw [h, service_eq, eiPromote_wake_eq]
    exact ⟨rfl, rfl, rfl, Fin.zero_le _, nofun⟩
  · rw [h, eiPromote_wake_eq, eiPromote_eq]
    exact ⟨rfl, rfl, rfl, hei, id⟩

theorem eiPromote_ime : s.eiPromote.ime = (s.ime || decide (s.eiCount = 1)) := by rw [eiPromote_eq]

theorem wake_of_pending_zero (h : s.pending = 0) : s.wake = s := if_pos h

theorem wake_of_pending_ne_zero (h : s.pending ≠ 0) : s.wake = { s with halted := false } := if_neg h

theorem wake_of_not_halted (h : s.halted = false) : s.wake = s := by rw [wake_eq, h, Bool.false_and, ← h]

/-- No interrupt is taken without IME behind the promotion and a deliverable request (R154). -/
theorem beginStep_of_untaken (h : s.eiPromote.ime = false ∨ s.pending = 0) : s.beginStep = s.eiPromote.wake := by
  obtain ⟨hime, hp, -⟩ | ⟨-, hbegin⟩ := beginStep_cases s
  · obtain h | h := h
    · exact absurd (h.symm.trans hime) Bool.false_ne_true
    · exact absurd h hp
  · exact hbegin

/-- With both, the lowest source is served by a core that has woken (R153 to R155). -/
theorem beginStep_of_taken (hime : s.eiPromote.ime = true) (hp : s.pending ≠ 0) :
    ∃ i, lowestSource s.pending = some i ∧ s.beginStep = { s.eiPromote with halted := false }.service i := by
  obtain ⟨-, -, i, hi, hbegin⟩ | ⟨h, -⟩ := beginStep_cases s
  · exact ⟨i, hi, by rw [hbegin, wake_of_pending_ne_zero _ (pending_eiPromote s ▸ hp)]⟩
  · obtain h | h := h
    · exact absurd (h.symm.trans hime) Bool.false_ne_true
    · exact absurd h hp

/-- With no pending EI, IME clear and no wait to end, the start of a step changes nothing (R149). -/
theorem beginStep_undisturbed (hei : s.eiCount = 0) (hime : s.ime = false) (hh : s.halted = false) : s.beginStep = s := by
  have hp : s.eiPromote = s := by rw [State.eiPromote, hei]
  rw [beginStep_of_untaken s (.inl (by rw [hp]; exact hime)), hp, wake_of_not_halted s hh]

end

/-! ### The obligations of a step -/

/-- The decoder reads no byte behind those that the first byte tells (R60). -/
theorem decode_three {op n hi : Byte} {i : Instr} {rest : List Byte} (h : decode [op, n, hi] = .ok (i, rest)) :
    i = decodeOp op n hi ∧ (encode i).length = opLength op := by
  obtain ⟨hwf, henc⟩ := writes_decodeOp op n hi
  have hbytes : [op, n, hi] = encode (decodeOp op n hi) ++ [op, n, hi].drop (opLength op) := by
    rw [henc, List.take_append_drop]
  rw [hbytes, decodeInvertsEncode _ _ hwf] at h
  cases h
  exact ⟨rfl, by rw [henc, length_take_opLength]⟩

/-- The three bytes at PC are those that the instruction there is read from (R10, R43). -/
theorem readRange_pc_three (s : State) :
    s.readRange s.pc 3 = [s.memRead s.pc, s.memRead (s.pc + 1), s.memRead (s.pc + 2)] := by
  have hpc : s.pc + 1 + 1 = s.pc + 2 := BitVec.add_assoc s.pc 1 1
  simp only [State.readRange, hpc]

/-- A core that fetches runs the instruction at PC (R149). -/
theorem step_of_fetching {s : State} (he : s.endOfRun = none) (hh : s.countStep.beginStep.halted = false) :
    step s = finishStep (exec s.countStep.beginStep.instrAtPC s.atExec) := by
  rw [step_of_running he, State.runStep]
  simp only [hh]
  rfl

/-- Settles O49: the three bytes at PC decode to the instruction the step executes, with the length it fetches. -/
theorem stepRunsTheDecodedInstruction : Obligations.StepRunsTheDecodedInstruction := by
  intro s i rest he hh hdec
  rw [readRange_pc_three] at hdec
  obtain ⟨rfl, hlen⟩ := decode_three hdec
  obtain ⟨hregs, hsp, hmem, hpc⟩ := fetched_eq s.countStep.beginStep.traced (opLength (s.countStep.beginStep.memRead _))
  rw [hlen]
  exact ⟨step_of_fetching he hh, hpc, hregs, hsp, hmem, (control_traced _).trans (control_fetched _ _)⟩

theorem fault_of_endOfRun_none {s : State} (h : s.endOfRun = none) : s.fault = none := by
  unfold State.endOfRun at h
  cases hf : s.fault with
  | none => rfl
  | some f => rw [hf] at h; cases h

theorem step_of_fault {s : State} {f : IllegalOpcode} (h : s.fault = some f) : step s = .fault (.illegalOpcode f) := by
  refine step_of_endOfRun ?_
  rw [State.endOfRun, h]

/-- Settles O50: the step fetches the one byte and raises the fault, which the end of the step and the step behind it see. -/
theorem illegalOpcodeStepFaultsPrecisely : Obligations.IllegalOpcodeStepFaultsPrecisely := by
  intro s he hei hime hh hmem
  have hbegin : s.countStep.beginStep = s.countStep := beginStep_undisturbed _ hei hime hh
  have hhalt : s.countStep.beginStep.halted = false := by rw [hbegin]; exact hh
  obtain ⟨hlen, hexec⟩ := illegal_of_mem hmem
  have hat : s.atExec = s.countStep.traced.fetched 1 := by
    rw [State.atExec, hbegin]
    exact congrArg _ hlen
  obtain ⟨hregs, hsp, hm, hpc⟩ := fetched_eq s.countStep.traced 1
  have hcontrol := (control_traced s.countStep).trans (control_fetched s.countStep.traced 1)
  have hstep := step_of_fetching he hhalt
  rw [hbegin, hat] at hstep
  generalize s.countStep.traced.fetched 1 = u at hstep hregs hsp hm hpc hcontrol
  have hpc : u.pc = s.pc + 1 := hpc
  have hfault : (u.raiseIllegalOpcode (s.memRead s.pc)).fault = some { addr := s.pc, byte := s.memRead s.pc } := by
    rw [State.raiseIllegalOpcode, State.setFault_fault, hpc, BitVec.add_sub_cancel]
  refine ⟨u.raiseIllegalOpcode (s.memRead s.pc), ?_, hfault, hpc, hregs, hsp, hm, ?_, step_of_fault hfault⟩
  · exact hstep.trans (congrArg finishStep (hexec _ _ u))
  · exact ⟨hcontrol.ime, hcontrol.eiCount, hcontrol.halted, hcontrol.stopped, rfl, hcontrol.counter,
      hcontrol.lastTick, hcontrol.params⟩

/-- A core still halted behind the start of a step does nothing else in it (R153). -/
theorem step_of_waiting {s : State} (he : s.endOfRun = none) (hh : s.countStep.beginStep.halted = true) :
    step s = .next s.countStep.beginStep.endStep := by
  rw [step_of_running he, State.runStep]
  simp only [hh, if_true]

/-- Settles O51: without a request the start of the step is the promotion alone, with one it is the wake-up besides. -/
theorem haltedStepWaitsOrWakes : Obligations.HaltedStepWaitsOrWakes := by
  intro s he hh
  have hime : s.countStep.eiPromote.ime = s.eiPromote.ime := by rw [eiPromote_ime, eiPromote_ime]; rfl
  refine ⟨fun hd => ?_, fun hd hi => ?_, fun hd hi => ?_⟩
  · have hp : s.countStep.pending = 0 := hd
    have hbegin : s.countStep.beginStep = s.countStep.eiPromote := by
      rw [beginStep_of_untaken _ (.inr hp), wake_of_pending_zero _ ((pending_eiPromote _).trans hp)]
    have hhalt : s.countStep.eiPromote.halted = true := by rw [eiPromote_eq]; exact hh
    have hfault : s.countStep.eiPromote.fault = none := by
      rw [eiPromote_eq]
      exact fault_of_endOfRun_none (s := s) he
    rw [step_of_waiting he (hbegin ▸ hhalt), hbegin, endStep_of_fault_none _ hfault]
  · have hp : s.countStep.eiPromote.pending ≠ 0 := (pending_eiPromote _).trans_ne hd
    have hbegin : s.countStep.beginStep = { s.countStep.eiPromote with halted := false } := by
      rw [beginStep_of_untaken _ (.inl (hime.trans hi)), wake_of_pending_ne_zero _ hp]
    exact ⟨hbegin, by rw [hbegin]; exact pending_eiPromote s.countStep⟩
  · obtain ⟨i, -, hbegin⟩ := beginStep_of_taken s.countStep (hime.trans hi) hd
    rw [hbegin, service_eq]
    exact ⟨rfl, rfl⟩

/-- What the service of an interrupt leaves (R156). -/
theorem service_spec {s : State} (hwf : Memory.wf s.mem = true) (i : IrqSource) :
    ControlEq { s with ime := false, eiCount := 0 } (s.service i) ∧
    (s.service i).pc = i.vector ∧ (s.service i).sp = s.sp - 2 ∧ (s.service i).regs = s.regs ∧
    (s.service i).console = pushConsole s.pc s ∧
    ∀ x, (s.service i).memRead x =
      if x = addrIF then (s.push16 s.pc).memRead addrIF &&& ~~~ i.mask else (s.push16 s.pc).memRead x := by
  have hif : writable addrIF = true := by decide
  rw [service_eq]
  refine ⟨control_same rfl, rfl, rfl, rfl, (pushes_push16 hwf s.pc).console, fun x => ?_⟩
  rw [cell_of_writable hif]
  exact memRead_setCell (State.wf_push16 hwf s.pc) hif _ x

/-- A push stores alike whatever IME, the pending EI and `halted` are (R47). -/
theorem memRead_push16_control (s : State) (b h : Bool) (c : Fin 3) (v x : Word) :
    (State.push16 { s with ime := b, eiCount := c, halted := h } v).memRead x = (s.push16 v).memRead x := by
  simp only [State.push16, State.memWrite_eq]
  rfl

/-- Settles O52: the promotion and the wake-up touch nothing that the service pushes or reads. -/
theorem interruptEntryTakesTheLowestSource : Obligations.InterruptEntryTakesTheLowestSource := by
  intro s hwf
  refine ⟨fun h hh => ?_, fun hime hd => ?_⟩
  · have hh : s.eiPromote.halted = false := by rw [eiPromote_eq]; exact hh
    rw [beginStep_of_untaken s h, wake_of_not_halted _ hh]
  · obtain ⟨i, hi, hbegin⟩ := beginStep_of_taken s hime hd
    obtain ⟨n, hn, hmask, hvector, hbit, hbelow⟩ := lowestSource_spec _ i hi
    have hserved := service_spec (s := { s.eiPromote with halted := false }) (by rw [eiPromote_eq]; exact hwf) i
    rw [← hbegin] at hserved
    simp only [eiPromote_eq, memRead_push16_control] at hserved
    obtain ⟨hcontrol, hpc, hsp, hregs, hconsole, hmem⟩ := hserved
    exact ⟨n, hn, hbit, hbelow, hcontrol, hpc.trans hvector, hsp, hregs, hconsole, hmask ▸ hmem,
      (pushes_push16 hwf s.pc).mem⟩

/-! ### The timer -/

/-- The period that TAC selects (R7, R160). -/
theorem period_eq (p : Params) (tac : Byte) :
    Params.period p (tac.extractLsb' 0 2) =
      [2 ^ p.timer.k0, 2 ^ p.timer.k1, 2 ^ p.timer.k2, 2 ^ p.timer.k3].getD (tac.toNat % 4) 1 := by
  have hk : (tac.extractLsb' 0 2).toNat = tac.toNat % 4 := by simp
  obtain h | h | h | h : tac.toNat % 4 = 0 ∨ tac.toNat % 4 = 1 ∨ tac.toNat % 4 = 2 ∨ tac.toNat % 4 = 3 := by omega
  all_goals rw [Params.period, hk, h]; rfl

/-- When the timer ticks (R160). -/
theorem timaTicks_iff (s : State) (n : Nat) : s.timaTicks n = true ↔
    (s.memRead 0xFF07).getLsbD 2 = true ∧ n % [2 ^ s.params.timer.k0, 2 ^ s.params.timer.k1, 2 ^ s.params.timer.k2,
      2 ^ s.params.timer.k3].getD ((s.memRead 0xFF07).toNat % 4) 1 = 0 := by
  have hc : s.cell addrTAC = s.memRead 0xFF07 := cell_of_writable (by decide) s
  rw [State.timaTicks, hc, period_eq, Bool.and_eq_true, beq_iff_eq]

/-- A tick that does not overflow (R160). -/
theorem memRead_tickTIMA {s : State} (hwf : Memory.wf s.mem = true) (h : s.memRead addrTIMA ≠ 0xFF) (x : Word) :
    s.tickTIMA.memRead x = if x = addrTIMA then s.memRead addrTIMA + 1 else s.memRead x := by
  have hw : writable addrTIMA = true := by decide
  rw [State.tickTIMA, cell_of_writable hw, if_neg h, memRead_setCell hwf hw]

/-- A tick that overflows: the reload, then the request (R161). -/
theorem memRead_tickTIMA_overflow {s : State} (hwf : Memory.wf s.mem = true) (h : s.memRead addrTIMA = 0xFF) (x : Word) :
    s.tickTIMA.memRead x =
      if x = addrTIMA then s.memRead addrTMA else if x = addrIF then s.memRead addrIF ||| 0x04 else s.memRead x := by
  have hw : writable addrTIMA = true := by decide
  have hif : writable addrIF = true := by decide
  have htma : writable addrTMA = true := by decide
  have hne : addrIF ≠ addrTIMA := by decide
  have hwf' : Memory.wf (s.setCell addrTIMA (s.memRead addrTMA)).mem = true := Memory.wf_write hwf _ _
  rw [State.tickTIMA, cell_of_writable hw, if_pos h, cell_of_writable htma]
  simp only [cell_of_writable hif, memRead_setCell hwf' hif, memRead_setCell hwf hw, if_neg hne]
  by_cases hx : x = addrIF
  · subst hx
    rw [if_pos rfl, if_neg hne, if_pos rfl]
  · simp only [if_neg hx]

theorem tickTIMA_lastTick (s : State) : s.tickTIMA.lastTick = s.lastTick := by
  unfold State.tickTIMA
  split <;> rfl

section
variable {s : State}

theorem timerAdvance_of_ticks (h : s.timaTicks ((s.counter + 1) % 2 ^ s.params.counterBits) = true) :
    s.timerAdvance = ((s.setCounter ((s.counter + 1) % 2 ^ s.params.counterBits)).setLastTick
      ((s.counter + 1) % 2 ^ s.params.counterBits)).tickTIMA := if_pos h

theorem timerAdvance_of_not_ticks (h : ¬ s.timaTicks ((s.counter + 1) % 2 ^ s.params.counterBits) = true) :
    s.timerAdvance = s.setCounter ((s.counter + 1) % 2 ^ s.params.counterBits) := if_neg h

end

/-- Settles O53: the counter, and TIMA's tick where the timer ticks. -/
theorem timerAdvanceCountsAndTicks : Obligations.TimerAdvanceCountsAndTicks := by
  intro s hwf
  have hfields := (timerAdvance_fields s).1
  refine ⟨by rw [hfields], by rw [hfields], by rw [hfields], by rw [hfields], by rw [hfields], ?_, fun hticks => ?_,
    fun hidle => ?_⟩
  · rw [hfields]
    exact ⟨rfl, rfl, rfl, rfl, rfl, rfl, rfl, rfl⟩
  · rw [timerAdvance_of_ticks ((timaTicks_iff s _).2 hticks)]
    generalize (s.counter + 1) % 2 ^ s.params.counterBits = n
    exact ⟨tickTIMA_lastTick _, memRead_tickTIMA (s := (s.setCounter n).setLastTick n) hwf,
      memRead_tickTIMA_overflow (s := (s.setCounter n).setLastTick n) hwf⟩
  · rw [timerAdvance_of_not_ticks (mt (timaTicks_iff s _).1 hidle)]
    exact ⟨rfl, rfl⟩

/-! ### The end of a run -/

/-- `MAX_STEPS` steps have run (R7, R177). -/
theorem fuelSpent_iff (s : State) : s.fuelSpent = true ↔ ∃ m, s.params.maxSteps = some m ∧ m ≤ s.console.stepsRun := by
  unfold State.fuelSpent
  cases s.params.maxSteps <;> simp

/-- A core with no fault, no end asked for and not stopped ends when its fuel is spent (R177). -/
theorem endOfRun_of_fuel {s : State} (hf : s.fault = none) (hr : s.console.endRequested = none) (hs : s.stopped = false) :
    s.endOfRun = if s.fuelSpent then some .outOfFuel else none := by
  rw [State.endOfRun, hf, hr, hs]
  rfl

/-- Settles O54: the outcomes in the order in which the end of a run is decided, and a step that runs counts. -/
theorem runEndsInTheOrderOfOutcomes : Obligations.RunEndsInTheOrderOfOutcomes := by
  intro s
  refine ⟨fun f hf => step_of_fault hf, fun hf hr => step_of_endOfRun ?_, fun hf hr => step_of_endOfRun ?_,
    fun hf hr hs => step_of_endOfRun ?_, fun hf hr hs => ⟨fun hfuel => step_of_endOfRun ?_, fun hfuel => ?_⟩⟩
  · rw [State.endOfRun, hf, hr]
  · rw [State.endOfRun, hf, hr]
  · rw [State.endOfRun, hf, hr]
    exact if_pos hs
  · rw [endOfRun_of_fuel hf hr hs]
    exact if_pos ((fuelSpent_iff s).2 hfuel)
  · have he : s.endOfRun = none := by
      rw [endOfRun_of_fuel hf hr hs]
      exact if_neg (mt (fuelSpent_iff s).1 hfuel)
    obtain ⟨t, ht⟩ := step_total he
    obtain ⟨u, hkept, rfl⟩ := step_kept ht
    exact ⟨_, ht, by rw [State.endStep_console, hkept.stepsRun]; rfl⟩

end Sys2Proof.Machine
end

section
/-! PROOF. The whole machine: what every step keeps (10_state.md, 20_memory.md section 2), from what its three stages keep: the
start of a step, the instruction as one of the operations of Laws/Effect.lean, and the end of a step. -/

namespace Sys2Proof.Machine

/-! ### The control state behind an operation -/

section
variable (o : Op) (s : State)

/-- An operation leaves a pending EI within `EI_DELAY` (R25). -/
theorem Op.eiCount_run_le (h : s.eiCount ≤ s.eiDelayCount) : (o.run s).eiCount ≤ s.eiDelayCount := by
  obtain hc | rfl | rfl | rfl | rfl | rfl | ⟨op, rfl⟩ := o.control_or s
  · exact hc.eiCount.trans_le h
  · exact Fin.zero_le _
  · exact h
  · rw [Op.run, State.stop_eq]
    exact h
  · exact Fin.zero_le _
  · exact le_refl s.eiDelayCount
  · exact h

/-- An operation stops the core with `STOP_MODE = HANG` only (R27). -/
theorem Op.stopped_run (h : (o.run s).stopped = true) : s.stopped = true ∨ s.params.stopMode = .hang := by
  obtain hc | rfl | rfl | rfl | rfl | rfl | ⟨op, rfl⟩ := o.control_or s
  · exact .inl (hc.stopped.symm.trans h)
  · exact .inl ((State.popped_stopped s).symm.trans h)
  · exact .inl h
  · rw [Op.run, State.stop_eq] at h
    simpa using h
  · exact .inl h
  · exact .inl h
  · exact .inl h

/-- An operation that leaves IME set is RETI, or found it so (R24). -/
theorem Op.ime_run (h : (o.run s).ime = true) : s.ime = true ∨ o = .reti := by
  obtain hc | rfl | rfl | rfl | rfl | rfl | ⟨op, rfl⟩ := o.control_or s
  · exact .inl (hc.ime.symm.trans h)
  · exact .inr rfl
  · exact .inl h
  · rw [Op.run, State.stop_eq] at h
    exact .inl h
  · cases h
  · exact .inl h
  · exact .inl h

end

/-! ### The invariant -/

theorem eiDelayCount_congr {s t : State} (h : t.params = s.params) : t.eiDelayCount = s.eiDelayCount := by
  unfold State.eiDelayCount
  rw [h]

/-- What stores at writable addresses only and leaves the timer's counters and the parameters keeps the invariant, where it
keeps F's low nibble, the pending EI and `stopped` in bounds. -/
theorem State.Inv.of_kept {s t : State} (h : s.Inv) (k : Kept s t) (hf : t.regs.f &&& 0x0F = 0)
    (hei : t.eiCount ≤ s.eiDelayCount) (hs : t.stopped = true → s.params.stopMode = .hang) : t.Inv where
  canonical := k.mem.wf h.canonical
  onBus := k.mem.onBus h.onBus
  flagLow := hf
  counter := by rw [k.counter, k.params]; exact h.counter
  lastTick := by rw [k.lastTick, k.params]; exact h.lastTick
  eiCount := by rw [eiDelayCount_congr k.params]; exact hei
  stopped hst := by rw [k.params]; exact hs hst

/-- The start of a step keeps the invariant (R149). -/
theorem State.Inv.beginStep {s : State} (h : s.Inv) : s.beginStep.Inv := by
  obtain ⟨hregs, -, hstopped, hei, -⟩ := beginStep_keeps s
  exact h.of_kept (kept_beginStep s) (hregs ▸ h.flagLow) (hei.trans h.eiCount) (hstopped ▸ h.stopped)

/-- What leaves the registers and the control state too keeps the invariant. -/
theorem State.Inv.of_controlEq {s t : State} (h : s.Inv) (k : Kept s t) (hc : ControlEq s t) (hregs : t.regs = s.regs) :
    t.Inv :=
  h.of_kept k (hregs ▸ h.flagLow) (hc.eiCount ▸ h.eiCount) (hc.stopped ▸ h.stopped)

/-- The fetch keeps the invariant (R10). -/
theorem State.Inv.atExec {s : State} (h : s.countStep.beginStep.Inv) : s.atExec.Inv :=
  h.of_controlEq ((kept_traced _).trans (kept_fetched _ _)) ((control_traced _).trans (control_fetched _ _))
    (fetched_eq s.countStep.beginStep.traced _).1

/-- Every instruction keeps the invariant. -/
theorem State.Inv.run {s : State} (h : s.Inv) (o : Op) : (o.run s).Inv :=
  h.of_kept (o.kept s) (o.flagLow h.flagLow) (o.eiCount_run_le s h.eiCount)
    fun hs => (o.stopped_run s hs).elim h.stopped id

/-- The end of a step keeps the invariant (R29, R149). -/
theorem State.Inv.endStep {s : State} (h : s.Inv) : s.endStep.Inv := by
  obtain ⟨-, hend⟩ | ⟨-, hend⟩ := endStep_cases s
  · obtain ⟨hfields, htick⟩ := timerAdvance_fields s
    have hn : (s.counter + 1) % 2 ^ s.params.counterBits < 2 ^ s.params.counterBits :=
      Nat.mod_lt _ (Nat.two_pow_pos _)
    have hlast : s.timerAdvance.lastTick < 2 ^ s.params.counterBits := by
      obtain htick | htick := htick
      · exact htick ▸ h.lastTick
      · exact htick ▸ hn
    have hw := written_timerAdvance s
    rw [hend, hfields]
    exact ⟨hw.wf h.canonical, hw.onBus h.onBus, h.flagLow, hn, hlast, h.eiCount, h.stopped⟩
  · rw [hend]
    exact h

/-- Settles O55: each stage of a step keeps the invariant. -/
theorem stepKeepsInvariant : Obligations.StepKeepsInvariant := by
  intro s t h hstep
  have hbegin : s.countStep.beginStep.Inv :=
    State.Inv.beginStep ⟨h.canonical, h.onBus, h.flagLow, h.counter, h.lastTick, h.eiCount, h.stopped⟩
  obtain ⟨-, ⟨-, rfl⟩ | ⟨-, o, -, -, rfl⟩⟩ := step_cases hstep
  · exact hbegin.endStep
  · exact (hbegin.atExec.run o).endStep

/-- A launch that gives a state has accepted its image, and the state is the one `launch_accepted` names (R168). -/
theorem launch_eq_ok {cfg : LaunchConfig} {image : List Byte} {t : State} (h : launch cfg (some image) = .ok t) :
    t = State.atLaunch cfg.params (Memory.tabulate (initialByte cfg image) 0x10000 []) := by
  cases hr : refusalOf cfg.logo (some image) with
  | none => rw [launch_accepted hr] at h; cases h; rfl
  | some r => rw [launch_refused hr] at h; cases h

/-- A launch lists only addresses at which the bus owns a byte (R34, R38). -/
theorem onBus_tabulate (cfg : LaunchConfig) (image : List Byte) :
    Memory.onBus (Memory.tabulate (initialByte cfg image) 0x10000 []) = true := by
  rw [Memory.onBus, List.all_eq_true]
  intro e he
  obtain h | ⟨hlt, hbyte, hne⟩ := Memory.mem_tabulate he
  · cases h
  · rw [decide_eq_true hlt, Bool.true_and]
    exact backed_of_initialByte (hbyte ▸ hne)

/-- A machine with the reset values meets the invariant where its memory does (R36). -/
theorem inv_atLaunch {p : Params} {m : Memory} (hwf : Memory.wf m = true) (hbus : Memory.onBus m = true) :
    (State.atLaunch p m).Inv :=
  ⟨hwf, hbus, (by decide : Regs.reset.f &&& 0x0F = 0), Nat.two_pow_pos _, Nat.two_pow_pos _, Fin.zero_le _, nofun⟩

/-- Settles O56: an empty memory and a tabulated one are canonical and lie on the bus. -/
theorem resetAndLaunchMeetInvariant : Obligations.ResetAndLaunchMeetInvariant := by
  refine ⟨inv_atLaunch rfl rfl, fun cfg image t h => ?_⟩
  rw [launch_eq_ok h]
  exact inv_atLaunch (Memory.wf_tabulate _ _ rfl (by simp)) (onBus_tabulate cfg image)

/-! ### ROM and the parameters -/

theorem params_step {s t : State} (h : step s = .next t) : t.params = s.params := by
  obtain ⟨u, hkept, rfl⟩ := step_kept h
  rw [State.endStep_params]
  exact hkept.params

theorem memRead_of_hole {a : Word} (h : (Region.of a).kind = .unmapped ∨ (Region.of a).kind = .prohibited) (s : State) :
    s.memRead a = 0x00 := by
  unfold State.memRead
  obtain h | h := h <;> rw [h]

theorem not_writable_of_kind_ne {a : Word} (h : (Region.of a).kind ≠ .cells) : writable a = false := decide_eq_false h

/-- Settles O57: a step stores at writable addresses only, and ROM has none. -/
theorem stepNeverChangesRom : Obligations.StepNeverChangesRom := by
  intro s t hwf hstep
  refine ⟨fun a ha => ?_, fun a ha => ?_, params_step hstep⟩
  · have hk : (Region.of a).kind = .rom := (Region.kind_rom_iff a).2 ha
    have hw : writable a = false := not_writable_of_kind_ne (by rw [hk]; decide)
    unfold State.memRead
    rw [hk]
    exact (written_step hstep).read hwf hw
  · exact memRead_of_hole (ha.imp (Region.kind_unmapped_iff a).2 (Region.kind_prohibited_iff a).2) t

/-! ### The counter and the master enable -/

/-- Settles O58: whatever a step does before its end keeps the counters, and the end advances them but behind a fault. -/
theorem everyStepCountsOnce : Obligations.EveryStepCountsOnce := by
  intro s t hstep
  obtain ⟨u, hkept, rfl⟩ := step_kept hstep
  rw [State.endStep_fault]
  obtain ⟨hf, hend⟩ | ⟨hf, hend⟩ := endStep_cases u <;> rw [hend]
  · refine ⟨fun _ => ?_, fun h => absurd hf h⟩
    rw [(timerAdvance_fields u).1, hkept.counter, hkept.params]
    rfl
  · exact ⟨fun h => absurd h hf, fun _ => ⟨hkept.counter, hkept.lastTick⟩⟩

/-- Settles O59: the end of a step leaves IME, the instruction raises it only as RETI, the start only by the promotion. -/
theorem masterEnableRisesOnlyByEiOrReti : Obligations.MasterEnableRisesOnlyByEiOrReti := by
  intro s t hstep hlow hhigh
  obtain ⟨-, -, -, -, hbegin⟩ := beginStep_keeps s.countStep
  have hpromoted (h : s.countStep.beginStep.ime = true) : s.eiCount = 1 := by
    have h := hbegin h
    rw [eiPromote_ime, show s.countStep.ime = false from hlow, Bool.false_or] at h
    exact of_decide_eq_true h
  obtain ⟨-, ⟨-, rfl⟩ | ⟨hh, o, -, hreti, rfl⟩⟩ := step_cases hstep <;> rw [State.endStep_ime] at hhigh
  · exact .inl (hpromoted hhigh)
  · obtain hime | ho := o.ime_run _ hhigh
    · have hat : ControlEq s.countStep.beginStep s.atExec := (control_traced _).trans (control_fetched _ _)
      exact .inl (hpromoted (hat.ime.symm.trans hime))
    · exact .inr ⟨hh, hreti ho⟩

/-! ### The logs -/

namespace LogsOnly

variable {s u : State}

theorem memRead_eq (h : LogsOnly s u) (a : Word) : u.memRead a = s.memRead a := by
  obtain ⟨k, -, rfl⟩ := h
  rfl

theorem pc_eq (h : LogsOnly s u) : u.pc = s.pc := by
  obtain ⟨k, -, rfl⟩ := h
  rfl

theorem halted_eq (h : LogsOnly s u) : u.halted = s.halted := by
  obtain ⟨k, -, rfl⟩ := h
  rfl

/-- The instruction at PC does not depend on the logs. -/
theorem instrAtPC_eq (h : LogsOnly s u) : u.instrAtPC = s.instrAtPC := by
  unfold State.instrAtPC
  rw [h.pc_eq, h.memRead_eq, h.memRead_eq, h.memRead_eq]

theorem lengthAtPC_eq (h : LogsOnly s u) : u.lengthAtPC = s.lengthAtPC := by
  unfold State.lengthAtPC
  rw [h.pc_eq, h.memRead_eq]

end LogsOnly

/-- Settles O60: every stage of a step keeps two states alike but for the logs, and its choices read none of them. -/
theorem logsInfluenceNothing : Obligations.LogsInfluenceNothing := by
  intro s u hlogs
  have h := LogsOnly.of_withoutLogs hlogs
  have hbegin : LogsOnly s.countStep.beginStep u.countStep.beginStep := h.countStep.beginStep
  cases he : s.endOfRun with
  | some f =>
    rw [step_of_endOfRun he, step_of_endOfRun (h.endOfRun_eq.trans he)]
    rfl
  | none =>
    have heu : u.endOfRun = none := h.endOfRun_eq.trans he
    cases hh : s.countStep.beginStep.halted with
    | true =>
      rw [step_of_waiting he hh, step_of_waiting heu (hbegin.halted_eq.trans hh)]
      exact hbegin.endStep.withoutLogs
    | false =>
      obtain ⟨o, hrun, -⟩ := exec_eq_run s.countStep.beginStep.instrAtPC
      have hat : LogsOnly s.atExec u.atExec := by
        unfold State.atExec
        rw [hbegin.lengthAtPC_eq]
        exact hbegin.traced.fetched _
      rw [step_of_fetching he hh, step_of_fetching heu (hbegin.halted_eq.trans hh), hbegin.instrAtPC_eq, hrun, hrun]
      exact (hat.run o).endStep.withoutLogs

end Sys2Proof.Machine
end

section
/-! PROOF. The launch (70_reset_and_hazards.md R168 to R171), the bus router (20_memory.md R40, R41), the serial word (R175) and the
operand tables (30_encoding.md R55 to R59). -/

namespace Sys2Proof.Machine

/-! ### The launch -/

section
variable (cfg : LaunchConfig) (image : List Byte)

/-- A byte behind an accepted launch that the bus reads from memory (R36, R40). -/
theorem memRead_launched {a : Word} (h : (Region.of a).kind = .rom ∨ (Region.of a).kind = .cells) :
    (State.atLaunch cfg.params (Memory.tabulate (initialByte cfg image) 0x10000 [])).memRead a =
      initialByte cfg image a.toNat := by
  rw [← cell_launched]
  unfold State.memRead
  obtain h | h := h <;> rw [h]

theorem initialByte_rom {a : Word} (h : (Region.of a).kind = .rom) :
    initialByte cfg image a.toNat = romByte cfg image a.toNat := by
  rw [initialByte, BitVec.ofNat_toNat, BitVec.setWidth_eq, h]

theorem initialByte_cells {a : Word} (h : (Region.of a).kind = .cells) :
    initialByte cfg image a.toNat = cfg.initMem a.toNat := by
  rw [initialByte, BitVec.ofNat_toNat, BitVec.setWidth_eq, h]

/-- The launch of an image that can be read: the three checks in their order (R169). -/
theorem launch_some : launch cfg (some image) =
    if image.length < 0x0150 then .error .tooShort
    else if imageLogo image ≠ cfg.logo then .error .logoMismatch
    else if headerChecksum image ≠ imageByte image 0x014D then .error .checksumMismatch
    else .ok (State.atLaunch cfg.params (Memory.tabulate (initialByte cfg image) 0x10000 [])) := by
  simp only [launch, refusalOf]
  split_ifs <;> rfl

end

/-- Settles O9: the reset values, and behind the bus what the launch tabulates there. -/
theorem launchBeginsInResetState : Obligations.LaunchBeginsInResetState := by
  intro cfg image h
  refine ⟨_, launch_accepted h, rfl, rfl, rfl, rfl, rfl, rfl, rfl, rfl, rfl, rfl, rfl, rfl, rfl, rfl, rfl, rfl, rfl,
    fun a ha => ?_, fun a ha => ?_, fun a ha => ?_⟩
  · have hk : (Region.of a).kind = .rom := (Region.kind_rom_iff a).2 (Nat.le_of_lt_succ ha)
    rw [memRead_launched cfg image (.inl hk), initialByte_rom cfg image hk]
    rfl
  · have hk : (Region.of a).kind = .cells := of_decide_eq_true ha
    rw [memRead_launched cfg image (.inr hk), initialByte_cells cfg image hk]
  · exact memRead_of_hole (ha.imp (Region.kind_unmapped_iff a).2 (Region.kind_prohibited_iff a).2) _

/-- Settles O10: whichever check fails first decides the launch. -/
theorem imageAcceptanceChecksInOrder : Obligations.ImageAcceptanceChecksInOrder := by
  refine ⟨fun cfg => rfl, fun cfg image => ?_, rfl⟩
  intro logoOk sum hlogo
  have hsum : headerChecksum image = sum := headerSum_eq_foldl image 25 0x0134 0
  rw [launch_some, hsum, imageByte]
  generalize image.getD 0x014D 0 = check
  by_cases hlen : image.length < 0x0150
  · simp [hlen]
  have hle : 0x0150 ≤ image.length := Nat.le_of_not_lt hlen
  have hok : imageLogo image = cfg.logo ↔ logoOk := imageLogo_eq_iff hlogo hle
  by_cases hl : logoOk
  · by_cases hs : sum = check <;> simp [hlen, hle, hok, hl, hs]
  · simp [hlen, hle, hok, hl]

/-! ### The bus -/

section
variable (s : State) {a : Word}

theorem memWrite_of_rom (h : (Region.of a).kind = .rom) (v : Byte) : s.memWrite a v = s.warn .romWrite a := by
  rw [State.memWrite, h]

theorem memWrite_of_unmapped (h : (Region.of a).kind = .unmapped) (v : Byte) : s.memWrite a v = s.warn .unmapped a := by
  rw [State.memWrite, h]

theorem memWrite_of_prohibited (h : (Region.of a).kind = .prohibited) (v : Byte) :
    s.memWrite a v = s.warn .prohibited a := by
  rw [State.memWrite, h]

theorem writeWarnings_of_cells (h : (Region.of a).kind = .cells) : writeWarnings a = [] := by rw [writeWarnings, h]

theorem readWarnings_of_cells (h : (Region.of a).kind = .cells) : readWarnings a = [] := by rw [readWarnings, h]

end

/-- Settles O11: the four kinds of region cover the three ranges. -/
theorem busReadRoutesByAddress : Obligations.BusReadRoutesByAddress := by
  intro s a
  refine ⟨fun ha => ?_, fun ha => ?_, fun ha => ?_⟩
  · have hk : (Region.of a).kind = .rom ∨ (Region.of a).kind = .cells := by
      rw [Region.kind_rom_iff, Region.kind_cells_iff]
      omega
    unfold State.memRead State.noteRead
    obtain hk | hk := hk <;> rw [hk] <;> exact ⟨rfl, rfl⟩
  · have hk := (Region.kind_unmapped_iff a).2 ha
    exact ⟨memRead_of_hole (.inl hk) s, by rw [State.noteRead, hk]⟩
  · have hk := (Region.kind_prohibited_iff a).2 ha
    exact ⟨memRead_of_hole (.inr hk) s, by rw [State.noteRead, hk]⟩

/-- Settles O12: the three kinds that reject, and the frame of a store for the cells. -/
theorem busWriteRoutesByAddress : Obligations.BusWriteRoutesByAddress := by
  intro s a v hwf
  refine ⟨fun ha => memWrite_of_rom s ((Region.kind_rom_iff a).2 ha) v,
    fun ha => memWrite_of_unmapped s ((Region.kind_unmapped_iff a).2 ha) v,
    fun ha => memWrite_of_prohibited s ((Region.kind_prohibited_iff a).2 ha) v, fun ha => ?_⟩
  have hk : (Region.of a).kind = .cells := (Region.kind_cells_iff a).2 ha
  have hw : writable a = true := decide_eq_true hk
  have hread (x : Word) := State.memRead_memWrite hwf a v x
  have hsc : a = addrSC ↔ a.toNat = 0xFF02 := BitVec.toNat_eq
  refine ⟨by rw [hread, if_pos ⟨rfl, hw⟩], fun x hx => by rw [hread, if_neg fun h => hx h.1], State.memWrite_regs s a v,
    State.memWrite_sp s a v, State.memWrite_pc s a v, control_memWrite s a v, State.wf_memWrite hwf a v, ?_⟩
  rw [memWrite_console, writeWarnings_of_cells hk, Console.warned_nil, Console.stored]
  simp only [hsc]
  rfl

/-! ### The serial word -/

section
variable (k : Console) {b : Byte}

/-- A space or newline ends the word (R175). -/
theorem serial_of_blank (h : b = 0x20 ∨ b = 0x0A) :
    k.serial b = { k with echoed := k.echoed ++ [b], wordBuffer := [] } := if_pos h

/-- Any other byte is appended to the word, which is then compared (R175). -/
theorem serial_of_letter (h : ¬(b = 0x20 ∨ b = 0x0A)) :
    k.serial b = { k with
      echoed := k.echoed ++ [b], wordBuffer := k.wordBuffer ++ [b]
      endRequested := (EndWord.ofBuffer (k.wordBuffer ++ [b])).or k.endRequested } := by
  rw [Console.serial, if_neg h]
  cases EndWord.ofBuffer (k.wordBuffer ++ [b]) <;> rfl

theorem ofBuffer_eq_none {buf : List Byte} (h : buf ∉ [EndWord.passed.bytes, EndWord.failed.bytes]) :
    EndWord.ofBuffer buf = none := by
  simp only [List.mem_cons, List.not_mem_nil, or_false, not_or] at h
  rw [EndWord.ofBuffer, if_neg h.1, if_neg h.2]

end

/-- Settles O13: the two kinds of byte, and the end of a run that the word asks for. -/
theorem serialBytesBuildTheWord : Obligations.SerialBytesBuildTheWord := by
  refine ⟨fun s hf => ⟨fun hr => ?_, fun hr => ?_⟩, fun k b => ?_⟩
  · exact step_of_endOfRun (by rw [State.endOfRun, hf, hr])
  · exact step_of_endOfRun (by rw [State.endOfRun, hf, hr])
  · by_cases hb : b = 0x20 ∨ b = 0x0A
    · rw [serial_of_blank k hb]
      exact ⟨rfl, rfl, rfl, fun _ => ⟨rfl, rfl⟩, fun h => absurd hb (not_or.2 h)⟩
    · rw [serial_of_letter k hb]
      refine ⟨rfl, rfl, rfl, fun h => absurd h hb, fun _ => ⟨rfl, fun hw => ?_, fun hw => ?_, fun hw => ?_⟩⟩
      · rw [hw]; rfl
      · rw [hw]; rfl
      · rw [ofBuffer_eq_none hw]; rfl

/-! ### The operand tables -/

/-- F's mask makes a write of AF one of the word without its low nibble (R21, R57). -/
theorem setPair_a_f_mask (s : State) (v : Word) : s.setPair .a .f (v &&& 0xFFF0) = s.setPair .a .f v := by
  have hf (t : State) (x : Byte) : t.setReg .f (x &&& 0xF0) = t.setReg .f x := by
    simp only [State.setReg, Regs.set, BitVec.and_assoc, BitVec.and_self]
  rw [← Word.ofBytes_mask, State.setPair, Word.hiByte_ofBytes, Word.loByte_ofBytes, hf]
  rfl

/-- Settles O8: each table computes at each index; AF alone is written through a mask. -/
theorem operandTablesSelectAsListed : Obligations.OperandTablesSelectAsListed := by
  refine ⟨fun _ => rfl, fun _ _ => rfl, fun _ => rfl, fun _ _ => rfl, fun _ => rfl, fun s v => ?_, fun _ => rfl,
    fun _ => rfl, fun _ => rfl⟩
  rw [setPair_a_f_mask]
  rfl

end Sys2Proof.Machine
end

section
/-! PROOF. The other loads and stores of 41_loads.md (R76, R79 to R86), and a push with the pop behind it (95_test_vectors.md S3):
each is a store, a load or a register write with its frame (Laws/Frames.lean). -/

namespace Sys2Proof.Machine

/-! ### The high page -/

theorem highPage_eq (n : Byte) : highPage n = BitVec.ofNat 16 (0xFF00 + n.toNat) := by
  have hff : (0xFF : Byte).toNat = 255 := rfl
  have := n.isLt
  apply BitVec.eq_of_toNat_eq
  rw [highPage, Word.toNat_ofBytes, BitVec.toNat_ofNat, hff]
  omega

/-- The high page holds cells only, so that a read of it warns of nothing (R38, R40). -/
theorem readWarnings_highPage (n : Byte) : readWarnings (highPage n) = [] := by
  refine readWarnings_of_cells ((Region.kind_cells_iff _).2 (.inr (.inr ?_)))
  rw [highPage, Word.toNat_ofBytes]
  exact Nat.le_add_right 0xFF00 n.toNat

/-! ### Stores of A, and of SP -/

section
variable {s : State} (hwf : Memory.wf s.mem = true)

@[simp] theorem State.memWrite_hl (s : State) (a : Word) (v : Byte) : (s.memWrite a v).hl = s.hl := by
  simp [State.hl, State.pair]

include hwf

/-- A store of A, then a write of HL (R76). -/
theorem stores_memWrite_setHL (a v : Word) :
    Stores [.h, .l] a (s.reg .a) [] s ((s.memWrite a (s.reg .a)).setHL v) ∧
    ((s.memWrite a (s.reg .a)).setHL v).pair .h .l = v :=
  ⟨(stores_memWrite hwf _ a _).then (quiet_setHL _ (by simp) (by simp) v), pair_setHL _ v⟩

/-- `LD [HL+],A` (R76): HL is read for the adjustment behind a store that leaves it. -/
theorem storeA_atHLi_spec : Stores [.h, .l] (s.pair .h .l) (s.reg .a) [] s (s.storeA .atHLi) ∧
    (s.storeA .atHLi).pair .h .l = s.pair .h .l + 1 := by
  simp only [State.storeA, State.postAdjust, State.memWrite_hl]
  exact stores_memWrite_setHL hwf _ _

/-- `LD [HL-],A` (R76). -/
theorem storeA_atHLd_spec : Stores [.h, .l] (s.pair .h .l) (s.reg .a) [] s (s.storeA .atHLd) ∧
    (s.storeA .atHLd).pair .h .l = s.pair .h .l - 1 := by
  simp only [State.storeA, State.postAdjust, State.memWrite_hl]
  exact stores_memWrite_setHL hwf _ _

/-- Memory behind the two stores of SP (R85). -/
theorem memRead_storeSP (a x : Word) : (s.storeSP a).memRead x =
    if x = a ∧ writable a = true then s.sp.loByte
    else if x = a + 1 ∧ writable (a + 1) = true then s.sp.hiByte
    else s.memRead x := by
  rw [State.storeSP, State.memRead_memWrite (State.wf_memWrite hwf _ _), State.memRead_memWrite hwf]
  by_cases hx : x = a
  · subst hx
    simp
  · simp only [hx, false_and, if_false]

/-- The host's records behind the two stores of SP (R85, R174). -/
theorem storeSP_console (a : Word) : (s.storeSP a).console =
    (((s.console.warned (writeWarnings a)).stored a s.sp.loByte (s.memRead addrSB)).warned
      (writeWarnings (a + 1))).stored (a + 1) s.sp.hiByte (if a = addrSB then s.sp.loByte else s.memRead addrSB) := by
  have hsb : writable addrSB = true := by decide
  rw [State.storeSP, memWrite_console, memWrite_console, State.memRead_memWrite hwf]
  by_cases ha : a = addrSB
  · subst ha
    simp only [hsb, and_self, if_true]
  · simp only [Ne.symm ha, false_and, if_false, ha]

end

theorem control_storeSP (s : State) (a : Word) : ControlEq s (s.storeSP a) :=
  (control_memWrite _ _ _).trans (control_memWrite _ _ _)

/-! ### The stack pairs -/

section
variable (s : State) (p : R16stk)

theorem readR16stk_congr {s t : State} (h : t.regs = s.regs) (p : R16stk) : t.readR16stk p = s.readR16stk p := by
  unfold State.readR16stk State.hl State.pair State.reg
  rw [h]

/-- A stack pair behind a write of it (R57). -/
theorem readR16stk_writeR16stk (v : Word) :
    (s.writeR16stk p v).readR16stk p = if p = .af then v &&& 0xFFF0 else v := by
  cases p with
  | bc | de | hl => exact pair_setPair s (by decide) (by decide) (by decide) v
  | af => exact pair_setPair_f s (by decide) v

/-- The stack pairs share no register (R57). -/
theorem readR16stk_writeR16stk_ne {q : R16stk} (h : q ≠ p) (v : Word) :
    (s.writeR16stk p v).readR16stk q = s.readR16stk q := by
  cases p <;> cases q
  case bc.bc | de.de | hl.hl | af.af => exact absurd rfl h
  all_goals rfl

end

/-- What a pop reads behind a push, where the push could store both bytes (R47, R48). -/
theorem popValue_push16 {s : State} (hwf : Memory.wf s.mem = true) (hhi : writable (s.sp - 1) = true)
    (hlo : writable (s.sp - 2) = true) (v : Word) : (s.push16 v).popValue = v := by
  have hmem := (pushes_push16 hwf v).mem
  have hnext : s.sp - 2 + 1 = s.sp - 1 := by bv_omega
  have hne : s.sp - 1 ≠ s.sp - 2 := by bv_omega
  rw [State.popValue, State.push16_sp, hnext, hmem, hmem, if_neg fun h => hne h.1, if_pos ⟨rfl, hhi⟩,
    if_pos ⟨rfl, hlo⟩, Word.ofBytes_bytes]

@[simp] theorem State.writeR16stk_sp (s : State) (p : R16stk) (v : Word) : (s.writeR16stk p v).sp = s.sp := by
  cases p <;> rfl

/-! ### The obligations of the loads and stores -/

/-- Settles O20: a store of A, with HL written behind it where it is adjusted. -/
theorem storeAAtAddress : Obligations.StoreAAtAddress := by
  refine ⟨⟨rfl, fun _ _ => rfl⟩, ⟨rfl, fun _ _ => rfl⟩, ⟨rfl, fun _ _ => rfl⟩, ⟨rfl, fun _ _ => rfl⟩,
    ⟨rfl, fun _ _ => rfl⟩, fun s hwf => ⟨⟨_, rfl, storeA_atHLi_spec hwf⟩, ⟨_, rfl, storeA_atHLd_spec hwf⟩,
      fun a => ⟨_, rfl, stores_memWrite hwf [] a _⟩, fun n => ⟨_, rfl, ?_⟩, ⟨_, rfl, ?_⟩⟩⟩
  · rw [← highPage_eq]
    exact stores_memWrite hwf [] _ _
  · rw [← highPage_eq]
    exact stores_memWrite hwf [] _ _

/-- Settles O21: a load of A, which on the high page warns of nothing. -/
theorem loadAFromAddress : Obligations.LoadAFromAddress := by
  have hhigh (s : State) (n : Byte) :
      (s.loadAAt (highPage n)).reg .a = s.memRead (BitVec.ofNat 16 (0xFF00 + n.toNat)) ∧
      Quiet [.a] [] s (s.loadAAt (highPage n)) := by
    rw [← highPage_eq, ← readWarnings_highPage n]
    exact ⟨s.reg_loadAAt_a _, quiet_loadAAt s (by simp) _⟩
  exact ⟨⟨rfl, fun _ _ => rfl⟩, ⟨rfl, fun _ _ => rfl⟩, ⟨rfl, fun _ _ => rfl⟩, fun s =>
    ⟨fun a => ⟨_, rfl, s.reg_loadAAt_a a, quiet_loadAAt s (by simp) a⟩, fun n => ⟨_, rfl, hhigh s n⟩,
      ⟨_, rfl, hhigh s (s.reg .c)⟩⟩⟩

/-- Settles O22: two stores, of which neither hides the other's byte, and a write of SP. -/
theorem storeSPAndLoadSP : Obligations.StoreSPAndLoadSP := by
  refine ⟨⟨rfl, fun _ _ => rfl⟩, ⟨rfl, fun _ _ => rfl⟩, fun a s hwf => ⟨s.storeSP a, rfl, ?_, ?_, ?_,
    control_storeSP s a, memRead_storeSP hwf a, storeSP_console hwf a⟩,
    fun s => ⟨s.ldSPHL, rfl, rfl, fun _ _ => rfl, rfl, control_same rfl, fun _ => rfl, rfl⟩⟩
  · exact fun q _ => by simp [State.storeSP]
  · simp [State.storeSP]
  · simp [State.storeSP]

/-- Settles O14: the pop reads what the push stored, and writes it to its pair. -/
theorem pushThenPopMovesTheValue : Obligations.PushThenPopMovesTheValue := by
  intro p q s hwf hhi hlo
  have hregs : (s.pushPair p).popped.regs = s.regs := (State.popped_regs _).trans (State.push16_regs s _)
  have hvalue : (s.pushPair p).popValue = s.readR16stk p := popValue_push16 hwf hhi hlo _
  refine ⟨s.pushPair p, (s.pushPair p).popPair q, exec_pushOf s p, exec_popOf _ q, ?_, ?_, fun r hr => ?_⟩
  · rw [State.popPair, readR16stk_writeR16stk, hvalue]
  · rw [State.popPair, State.writeR16stk_sp, State.popped_sp, State.pushPair, State.push16_sp]
    exact BitVec.sub_add_cancel s.sp 2
  · rw [State.popPair, readR16stk_writeR16stk_ne _ q hr, readR16stk_congr hregs]

end Sys2Proof.Machine
end

section
/-! PROOF. The other forms of 42_alu8.md and 43_alu16.md: INC and DEC of an operand (R99, R100), the decimal adjustment alone and
behind an addition or a subtraction (R101, 95_test_vectors.md S2), CPL, SCF and CCF (R102 to R104), and SP plus a signed offset
(R108, R109). -/

namespace Sys2Proof.Machine

/-! ### A register and F written -/

/-- A write of A, then one of all four flags: F is not A, so the byte stays. -/
theorem setA_setReg_packFlags_spec (s : State) (v : Byte) (z n h c : Bool) :
    ((s.setReg .a v).setReg .f (packFlags z n h c)).reg .a = v ∧
    FlagsAre ((s.setReg .a v).setReg .f (packFlags z n h c)) z n h c ∧
    Quiet [.a, .f] [] s ((s.setReg .a v).setReg .f (packFlags z n h c)) :=
  ⟨by rw [State.reg_setReg_ne _ (by decide), State.reg_setReg_same, regMask_a], flagsAre_setReg_packFlags _ z n h c,
    (quiet_setReg s (by simp) v).then (quiet_setReg _ (by simp) _)⟩

/-! ### INC and DEC of an operand -/

/-- `00yyy100` (R64). -/
theorem encodes_incR8Of (y : BitVec 3) : Encodes (0#2 ++ y ++ 4#3) 1 fun _ _ => Instr.incR8Of (.ofField y) :=
  ⟨by simp [opLength], fun n hi => by simp [decodeOp, decodeBlock0]⟩

/-- `00yyy101` (R64). -/
theorem encodes_decR8Of (y : BitVec 3) : Encodes (0#2 ++ y ++ 5#3) 1 fun _ _ => Instr.decR8Of (.ofField y) :=
  ⟨by simp [opLength], fun n hi => by simp [decodeOp, decodeBlock0]⟩

/-- An operand read and written back, and all four flags written behind it (R99, R100). -/
theorem writesR8_setReg_packFlags {s : State} (hwf : Memory.wf s.mem = true) (r : R8) (x : Byte) (z n h c : Bool) :
    WritesR8 r x [.f] (r8Warnings s r) s (((s.noteR8 r).writeR8 r x).setReg .f (packFlags z n h c)) ∧
    FlagsAre (((s.noteR8 r).writeR8 r x).setReg .f (packFlags z n h c)) z n h c :=
  ⟨(writesR8_writeR8 hwf r r x [.f]).setF _, flagsAre_setReg_packFlags _ z n h c⟩

/-- Settles O29: the operand's rule for writes, with F written behind it. -/
theorem incAndDecR8KeepCarry : Obligations.IncAndDecR8KeepCarry := by
  refine ⟨encodes_incR8Of, encodes_decR8Of, fun r s hwf => ⟨⟨s.inc8 r, s.readR8 r + 1, exec_incR8Of s r, ?_, ?_⟩,
    ⟨s.dec8 r, s.readR8 r - 1, exec_decR8Of s r, ?_, ?_⟩⟩⟩
  · exact BitVec.toNat_add _ 1
  · exact writesR8_setReg_packFlags hwf r _ _ _ _ _
  · rw [BitVec.toNat_sub, Nat.add_comm]
    rfl
  · exact writesR8_setReg_packFlags hwf r _ _ _ _ _

/-! ### The decimal adjustment -/

/-- The two corrections touch different nibbles, so that putting them together is adding them (R101). -/
theorem toNat_daaCorrection (low high : Bool) :
    ((((if low then 0x06 else 0x00) ||| (if high then 0x60 else 0x00) : Byte).toNat : Nat) : Int) =
      (if low then 0x06 else 0) + (if high then 0x60 else 0) := by
  cases low <;> cases high <;> rfl

/-- The byte that DAA leaves, as a number (R101). -/
theorem toNat_daaResult (a : Byte) (n h c : Bool) :
    ((daaResult a n h c).1.toNat : Int) =
      (if n then (a.toNat : Int) - ((if daaLow a n h then 0x06 else 0) + (if daaHigh a n c then 0x60 else 0))
        else a.toNat + ((if daaLow a n h then 0x06 else 0) + (if daaHigh a n c then 0x60 else 0))) % 256 := by
  unfold daaResult
  rw [← toNat_daaCorrection]
  generalize ((if daaLow a n h then 0x06 else 0x00) ||| (if daaHigh a n c then 0x60 else 0x00) : Byte) = corr
  have ha := a.isLt
  have hc := corr.isLt
  cases n
  · simp only [Bool.false_eq_true, if_false, BitVec.toNat_add]
    omega
  · simp only [if_true, BitVec.toNat_sub]
    omega

/-- What DAA leaves: its result in A, its flags in F (R101). -/
theorem daa_spec (s : State) :
    s.daa.reg .a = (daaResult (s.reg .a) (s.flag .n) (s.flag .h) (s.flag .c)).1 ∧
    FlagsAre s.daa ((daaResult (s.reg .a) (s.flag .n) (s.flag .h) (s.flag .c)).1 == 0) (s.flag .n) false
      (daaHigh (s.reg .a) (s.flag .n) (s.flag .c)) ∧
    Quiet [.a, .f] [] s s.daa := setA_setReg_packFlags_spec s _ _ _ _ _

/-- Settles O30: the corrected byte as a number, and the four flags behind it. -/
theorem daaAppliesBothCorrections : Obligations.DaaAppliesBothCorrections := by
  refine ⟨⟨rfl, fun _ _ => rfl⟩, fun s => ⟨s.daa, rfl, ?_⟩⟩
  obtain ⟨ha, hflags, hquiet⟩ := daa_spec s
  rw [ha]
  exact ⟨toNat_daaResult _ _ _ _, hflags, hquiet⟩

/-! ### Decimal arithmetic -/

/-- The byte of a number below 100, a decimal digit in each nibble. -/
def bcd (k : Nat) : Byte := BitVec.ofNat 8 (k / 10 * 16 + k % 10)

theorem toNat_bcd {k : Nat} (h : k < 100) : (bcd k).toNat = k / 10 * 16 + k % 10 := by
  rw [bcd, BitVec.toNat_ofNat]
  omega

section
variable {x y : Nat} (hx : x < 100) (hy : y < 100)
include hx hy

/-- Behind an addition DAA corrects the low digit exactly when the low digits carry (R101). -/
theorem daaLow_add8_bcd : daaLow (add8 (bcd x) (bcd y) false).value false (add8 (bcd x) (bcd y) false).half =
    decide (x % 10 + y % 10 ≥ 10) := by
  rw [Bool.eq_iff_iff]
  simp only [daaLow, lowNibble, toNat_add8_value]
  simp only [add8, lowNibble, toNat_bcd hx, toNat_bcd hy, Bool.toNat_false, Bool.or_eq_true, Bool.not_false,
    Bool.true_and, decide_eq_true_eq]
  omega

/-- Behind an addition DAA corrects the high digit exactly when the decimal sum carries (R101). -/
theorem daaHigh_add8_bcd : daaHigh (add8 (bcd x) (bcd y) false).value false (add8 (bcd x) (bcd y) false).carry =
    decide (x + y ≥ 100) := by
  rw [Bool.eq_iff_iff]
  simp only [daaHigh, toNat_add8_value]
  simp only [add8, toNat_bcd hx, toNat_bcd hy, Bool.toNat_false, Bool.or_eq_true, Bool.not_false, Bool.true_and,
    decide_eq_true_eq]
  obtain ⟨k, d, hd, hsum, hbytes⟩ : ∃ k d, d ≤ 18 ∧ x + y = 10 * k + d ∧
      x / 10 * 16 + x % 10 + (y / 10 * 16 + y % 10) + 0 = 16 * k + d :=
    ⟨x / 10 + y / 10, x % 10 + y % 10, by omega, by omega, by omega⟩
  rw [hsum, hbytes]
  clear hsum hbytes
  omega

/-- Behind a subtraction DAA corrects the low digit exactly when the low digits borrow (R101). -/
theorem daaLow_sub8_bcd : daaLow (sub8 (bcd x) (bcd y) false).value true (sub8 (bcd x) (bcd y) false).half =
    decide (x % 10 < y % 10) := by
  rw [Bool.eq_iff_iff]
  simp only [daaLow, sub8, lowNibble, toNat_bcd hx, toNat_bcd hy, Bool.toNat_false, Bool.not_true, Bool.false_and,
    Bool.or_false, decide_eq_true_eq]
  omega

/-- Behind a subtraction DAA corrects the high digit exactly when the decimal difference borrows (R101). -/
theorem daaHigh_sub8_bcd : daaHigh (sub8 (bcd x) (bcd y) false).value true (sub8 (bcd x) (bcd y) false).carry =
    decide (x < y) := by
  rw [Bool.eq_iff_iff]
  simp only [daaHigh, sub8, toNat_bcd hx, toNat_bcd hy, Bool.toNat_false, Bool.not_true, Bool.false_and,
    Bool.or_false, decide_eq_true_eq]
  omega

/-- The corrected sum (95_test_vectors.md S2). -/
theorem daaResult_add8_bcd : (daaResult (add8 (bcd x) (bcd y) false).value false (add8 (bcd x) (bcd y) false).half
    (add8 (bcd x) (bcd y) false).carry).1 = bcd ((x + y) % 100) := by
  apply BitVec.eq_of_toNat_eq
  have h := toNat_daaResult (add8 (bcd x) (bcd y) false).value false (add8 (bcd x) (bcd y) false).half
    (add8 (bcd x) (bcd y) false).carry
  rw [daaLow_add8_bcd hx hy, daaHigh_add8_bcd hx hy, toNat_add8_value, toNat_bcd hx, toNat_bcd hy] at h
  rw [toNat_bcd (Nat.mod_lt _ (by decide))]
  simp only [Bool.false_eq_true, if_false, Bool.toNat_false, decide_eq_true_eq] at h
  split_ifs at h <;> omega

/-- The corrected difference (95_test_vectors.md S2). -/
theorem daaResult_sub8_bcd : (daaResult (sub8 (bcd x) (bcd y) false).value true (sub8 (bcd x) (bcd y) false).half
    (sub8 (bcd x) (bcd y) false).carry).1 = bcd ((x + 100 - y) % 100) := by
  apply BitVec.eq_of_toNat_eq
  have h := toNat_daaResult (sub8 (bcd x) (bcd y) false).value true (sub8 (bcd x) (bcd y) false).half
    (sub8 (bcd x) (bcd y) false).carry
  rw [daaLow_sub8_bcd hx hy, daaHigh_sub8_bcd hx hy, toNat_sub8_value, toNat_bcd hx, toNat_bcd hy] at h
  rw [toNat_bcd (Nat.mod_lt _ (by decide))]
  simp only [if_true, Bool.toNat_false, decide_eq_true_eq] at h
  split_ifs at h <;> omega

end

/-- A and C behind a DAA, given A and the flags N, H and C before it. -/
theorem daa_of_flags {t : State} {a : Byte} {z n h c : Bool} (ha : t.reg .a = a) (hflags : FlagsAre t z n h c) :
    t.daa.reg .a = (daaResult a n h c).1 ∧ t.daa.flag .c = daaHigh a n c := by
  obtain ⟨-, hn, hh, hc⟩ := hflags
  obtain ⟨hres, ⟨-, -, -, hcarry⟩, -⟩ := daa_spec t
  rw [ha, hn, hh, hc] at hres
  rw [ha, hn, hc] at hcarry
  exact ⟨hres, hcarry⟩

/-- Settles O31: the two corrections put back what the decimal digits carry or borrow. -/
theorem daaCorrectsBcdArithmetic : Obligations.DaaCorrectsBcdArithmetic := by
  intro x y s hx hy _ hs
  have hs : s.reg .a = bcd x := hs
  obtain ⟨hsum, hsumFlags, -⟩ := (accumulates_accImm s .add (bcd y)).gives rfl rfl
  obtain ⟨hdiff, hdiffFlags, -⟩ := (accumulates_accImm s .sub (bcd y)).gives rfl rfl
  rw [hs] at hsum hsumFlags hdiff hdiffFlags
  obtain ⟨hadd, haddC⟩ := daa_of_flags hsum hsumFlags
  obtain ⟨hsub, hsubC⟩ := daa_of_flags hdiff hdiffFlags
  refine ⟨⟨s.accImm .add (bcd y), _, exec_aluImmOf s .add (bcd y), rfl, hadd.trans (daaResult_add8_bcd hx hy), ?_⟩,
    ⟨s.accImm .sub (bcd y), _, exec_aluImmOf s .sub (bcd y), rfl, hsub.trans (daaResult_sub8_bcd hx hy), ?_⟩⟩
  · rw [haddC, daaHigh_add8_bcd hx hy, decide_eq_true_iff]
  · rw [hsubC, daaHigh_sub8_bcd hx hy, decide_eq_true_iff]

/-! ### CPL, SCF, CCF -/

/-- Settles O32: each writes all four flags, two of them as they were. -/
theorem cplScfCcfSetTheirFlags : Obligations.CplScfCcfSetTheirFlags := by
  refine ⟨⟨rfl, fun _ _ => rfl⟩, ⟨rfl, fun _ _ => rfl⟩, ⟨rfl, fun _ _ => rfl⟩, fun s => ⟨⟨s.cpl, rfl, ?_⟩,
    ⟨s.scf, rfl, flagsAre_setFlags s _ _ _ _, quiet_setFlags s (by simp) _ _ _ _⟩,
    ⟨s.ccf, rfl, flagsAre_setFlags s _ _ _ _, quiet_setFlags s (by simp) _ _ _ _⟩⟩⟩
  exact setA_setReg_packFlags_spec s _ _ _ _ _

/-! ### SP plus a signed offset -/

/-- Adding a sign-extended byte adds its signed value modulo 2^16 (R8, R63). -/
theorem toNat_add_sext16 (w : Word) (e : Byte) :
    ((w + sext16 e).toNat : Int) = (w.toNat + signedValue e) % 65536 := by
  have hw := w.isLt
  have he := e.isLt
  have hmsb : e.msb = e.getLsbD 7 := BitVec.msb_eq_getLsbD_last e
  rw [BitVec.toNat_add, sext16, BitVec.toNat_signExtend, hmsb, signedValue]
  split <;> rw [BitVec.toNat_setWidth] <;> omega

/-- Settles O35: the sum, written to SP or HL, with the flags of the low byte behind it. -/
theorem spPlusOffset : Obligations.SPPlusOffset := by
  refine ⟨⟨rfl, fun _ _ => rfl⟩, ⟨rfl, fun _ _ => rfl⟩, fun e s => ⟨⟨s.addSP e, rfl, toNat_add_sext16 _ _,
    flagsAre_setReg_packFlags _ _ _ _ _, ?_, rfl, control_same rfl, fun _ => rfl, rfl⟩, ⟨s.ldHLSP e, rfl, ?_⟩⟩⟩
  · exact regsEqBut_setReg (s.setSP _) .f _
  · obtain ⟨hpair, hflags, hquiet⟩ := setHL_setReg_packFlags_spec s (addSPResult s.sp e).1 _ _ _ _
    exact ⟨(congrArg (fun w : Word => (w.toNat : Int)) hpair).trans (toNat_add_sext16 _ _), hflags, hquiet⟩

end Sys2Proof.Machine
end

section
/-! PROOF. Rotates, shifts and bit operations of 44_rotate_shift_bit.md (R110 to R124): each result bit by bit, and each
instruction as a write of its operand, of F, or of both. -/

namespace Sys2Proof.Machine

/-! ### The prefixed patterns -/

/-- `00yyyzzz` behind 0xCB (R68). -/
theorem encodes_rotOf (y z : BitVec 3) : EncodesPrefixed (0#2 ++ y ++ z) (Instr.rotOf (.ofField y) (.ofField z)) :=
  ⟨rfl, fun _ => (by simp [decodePrefixed] : decodePrefixed _ = _)⟩

/-- `01yyyzzz` behind 0xCB (R68). -/
theorem encodes_bitOf (y z : BitVec 3) : EncodesPrefixed (1#2 ++ y ++ z) (Instr.bitOf y.toFin (.ofField z)) :=
  ⟨rfl, fun _ => (by simp [decodePrefixed] : decodePrefixed _ = _)⟩

/-- `10yyyzzz` behind 0xCB (R68). -/
theorem encodes_resOf (y z : BitVec 3) : EncodesPrefixed (2#2 ++ y ++ z) (Instr.resOf y.toFin (.ofField z)) :=
  ⟨rfl, fun _ => (by simp [decodePrefixed] : decodePrefixed _ = _)⟩

/-- `11yyyzzz` behind 0xCB (R68). -/
theorem encodes_setOf (y z : BitVec 3) : EncodesPrefixed (3#2 ++ y ++ z) (Instr.setOf y.toFin (.ofField z)) :=
  ⟨rfl, fun _ => (by simp [decodePrefixed] : decodePrefixed _ = _)⟩

/-! ### The bits of a result -/

/-- The bit moved out (R114 to R121). -/
theorem rotResult_out (op : RotOp) (v : Byte) (c : Bool) : (rotResult op v c).2 = rotOut op v := by cases op <;> rfl

/-- The result of a rotate or shift, bit by bit (R114 to R121). -/
theorem getLsbD_rotResult (op : RotOp) (v : Byte) (c : Bool) {i : Nat} (hi : i < 8) :
    (rotResult op v c).1.getLsbD i = rotBit op v c i := by
  cases op <;> interval_cases i <;> simp [rotResult, rotBit]

/-- The mask of a bit has that bit alone (R63). -/
theorem getLsbD_bitMask (b : Fin 8) {i : Nat} (hi : i < 8) : (bitMask b).getLsbD i = decide (i = b.val) := by
  fin_cases b <;> interval_cases i <;> rfl

theorem getLsbD_reset (v : Byte) (b : Fin 8) {i : Nat} (hi : i < 8) :
    (v &&& ~~~ bitMask b).getLsbD i = if i = b.val then false else v.getLsbD i := by
  rw [BitVec.getLsbD_and, BitVec.getLsbD_not, getLsbD_bitMask b hi]
  by_cases h : i = b.val <;> simp [h, hi]

theorem getLsbD_set (v : Byte) (b : Fin 8) {i : Nat} (hi : i < 8) :
    (v ||| bitMask b).getLsbD i = if i = b.val then true else v.getLsbD i := by
  rw [BitVec.getLsbD_or, getLsbD_bitMask b hi]
  by_cases h : i = b.val <;> simp [h]

/-! ### The obligations of the rotates and bit operations -/

/-- What an accumulator rotate leaves (R110 to R113). -/
theorem rotA_spec (s : State) (op : RotOp) :
    (∀ i, i < 8 → ((s.rotA op).reg .a).getLsbD i = rotBit op (s.reg .a) (s.flag .c) i) ∧
    FlagsAre (s.rotA op) false false false (rotOut op (s.reg .a)) ∧ Quiet [.a, .f] [] s (s.rotA op) := by
  obtain ⟨ha, hflags, hquiet⟩ := setA_setReg_packFlags_spec s (rotResult op (s.reg .a) (s.flag .c)).1 false false false
    (rotResult op (s.reg .a) (s.flag .c)).2
  exact ⟨fun i hi => (congrArg (BitVec.getLsbD · i) ha).trans (getLsbD_rotResult op _ _ hi),
    rotResult_out op _ _ ▸ hflags, hquiet⟩

/-- Settles O36: the prefixed rotate's result in A, with Z cleared. -/
theorem accumulatorRotates : Obligations.AccumulatorRotates :=
  ⟨⟨rfl, fun _ _ => rfl⟩, ⟨rfl, fun _ _ => rfl⟩, ⟨rfl, fun _ _ => rfl⟩, ⟨rfl, fun _ _ => rfl⟩, fun s =>
    ⟨⟨_, rfl, rotA_spec s .rlc⟩, ⟨_, rfl, rotA_spec s .rrc⟩, ⟨_, rfl, rotA_spec s .rl⟩, ⟨_, rfl, rotA_spec s .rr⟩⟩⟩

/-- Settles O37: the operand's rule for writes, with F written behind it. -/
theorem prefixedRotatesAndShifts : Obligations.PrefixedRotatesAndShifts := by
  refine ⟨encodes_rotOf, fun op r s hwf => ⟨s.rot op r, (rotResult op (s.readR8 r) (s.flag .c)).1, exec_rotOf s op r,
    fun i hi => getLsbD_rotResult op _ _ hi, ?_⟩⟩
  rw [← rotResult_out op (s.readR8 r) (s.flag .c)]
  exact writesR8_setReg_packFlags hwf r _ _ _ _ _

/-- Settles O38: the operand is read, and F alone written. -/
theorem bitTestsOneBit : Obligations.BitTestsOneBit :=
  ⟨encodes_bitOf, fun b r s => ⟨s.bitTest b r, exec_bitOf s b r, flagsAre_setFlags _ _ _ _ _,
    (quiet_noteR8 s _ r).then (quiet_setFlags _ (by simp) _ _ _ _)⟩⟩

/-- Settles O39: the operand's rule for writes, F left alone. -/
theorem resAndSetChangeOneBit : Obligations.ResAndSetChangeOneBit :=
  ⟨fun y z => ⟨encodes_resOf y z, encodes_setOf y z⟩, fun b r s hwf =>
    ⟨⟨s.bitReset b r, _, exec_resOf s b r, fun _ hi => getLsbD_reset _ b hi, writesR8_writeR8 hwf r r _ []⟩,
      ⟨s.bitSet b r, _, exec_setOf s b r, fun _ hi => getLsbD_set _ b hi, writesR8_writeR8 hwf r r _ []⟩⟩⟩

end Sys2Proof.Machine
end

section
/-! PROOF. Jumps, calls and the return from an interrupt of 45_control.md (R125 to R135), and the system instructions of
46_system.md (R137 to R143). -/

namespace Sys2Proof.Machine

/-! ### The residual patterns of jumps and restarts -/

/-- `110cc010` (R67). -/
theorem encodes_jpCcOf :
    ∀ c : BitVec 2, Encodes (6#3 ++ c ++ 2#3) 3 fun n hi => Instr.jpCcOf (.ofField c) (Word.ofBytes hi n) := by
  refine forall_bitVec2.2 ⟨?_, ?_, ?_, ?_⟩ <;> exact ⟨rfl, fun _ _ => rfl⟩

/-- `001cc000` (R64). -/
theorem encodes_jrCcOf : ∀ c : BitVec 2, Encodes (1#3 ++ c ++ 0#3) 2 fun n _ => Instr.jrCcOf (.ofField c) n := by
  refine forall_bitVec2.2 ⟨?_, ?_, ?_, ?_⟩ <;> exact ⟨rfl, fun _ _ => rfl⟩

/-- `11ttt111` (R67). -/
theorem encodes_rstOf (t : BitVec 3) : Encodes (3#2 ++ t ++ 7#3) 1 fun _ _ => Instr.rstOf t.toFin :=
  ⟨by simp [opLength], fun n hi => by simp [decodeOp, decodeBlock3]⟩

/-! ### Jumps -/

section
variable (s : State) (cc : Cond)

theorem jumpsTo_setPC (a : Word) : JumpsTo a s (s.setPC a) :=
  ⟨rfl, fun _ _ => rfl, rfl, control_setPC s a, fun _ => rfl, rfl⟩

/-- A jump that is not taken is one to where PC is (R126). -/
theorem jumpIf_eq (a : Word) : s.jumpIf cc a = s.setPC (if s.cond cc then a else s.pc) := by
  unfold State.jumpIf
  split <;> rfl

theorem jumpsTo_jumpIf (a : Word) : JumpsTo (if s.cond cc then a else s.pc) s (s.jumpIf cc a) := by
  rw [jumpIf_eq]
  exact jumpsTo_setPC s _

/-- The target of a relative jump (R63, R128). -/
theorem toNat_relative (e : Byte) : ((s.relative e).toNat : Int) = (s.pc.toNat + signedValue e) % 65536 :=
  toNat_add_sext16 s.pc e

/-- PC behind a relative jump, taken or not (R129). -/
theorem toNat_relativeIf (e : Byte) : ((if s.cond cc then s.relative e else s.pc).toNat : Int) =
    (s.pc.toNat + (if s.cond cc then signedValue e else 0)) % 65536 := by
  split
  · exact toNat_relative s e
  · have := s.pc.isLt
    omega

end

/-- Settles O40: each writes PC alone. -/
theorem jumpsSetPC : Obligations.JumpsSetPC :=
  ⟨⟨rfl, fun _ _ => rfl⟩, ⟨rfl, fun _ _ => rfl⟩, ⟨rfl, fun _ _ => rfl⟩, fun s =>
    ⟨fun a => ⟨_, rfl, jumpsTo_setPC s a⟩, ⟨_, rfl, jumpsTo_setPC s s.hl⟩,
      fun e => ⟨_, s.relative e, rfl, toNat_relative s e, jumpsTo_setPC s _⟩⟩⟩

/-- Settles O41: a jump that is not taken is one to where PC is. -/
theorem conditionalJumpsTestTheFlag : Obligations.ConditionalJumpsTestTheFlag :=
  ⟨encodes_jpCcOf, encodes_jrCcOf, fun cc s =>
    ⟨fun a => ⟨_, exec_jpCcOf s cc a, jumpsTo_jumpIf s cc a⟩,
      fun e => ⟨_, _, exec_jrCcOf s cc e, toNat_relativeIf s cc e, jumpsTo_jumpIf s cc _⟩⟩⟩

/-! ### Calls and the return from an interrupt -/

theorem toNat_restartAddr (k : Fin 8) : (restartAddr k).toNat = k.val * 8 := by
  rw [restartAddr, BitVec.toNat_ofNat]
  omega

/-- Settles O42: a restart is a call of its vector. -/
theorem callAndRstPushTheReturnAddress : Obligations.CallAndRstPushTheReturnAddress := by
  refine ⟨⟨rfl, fun _ _ => rfl⟩, encodes_rstOf, fun s hwf => ⟨fun a => ⟨_, rfl, callTo_spec hwf a⟩,
    fun k => ⟨_, exec_rstOf s k, ?_⟩⟩⟩
  rw [← toNat_restartAddr]
  obtain ⟨hpush, hpc, hcontrol⟩ := callTo_spec hwf (restartAddr k)
  exact ⟨hpush, congrArg BitVec.toNat hpc, hcontrol⟩

/-- Settles O45: a pop, with PC, IME and the pending EI written behind it. -/
theorem retiPopsPCAndEnables : Obligations.RetiPopsPCAndEnables := by
  refine ⟨⟨rfl, fun _ _ => rfl⟩, fun s => ⟨s.returnFromInterrupt, rfl, rfl, rfl, rfl, ?_, ?_⟩⟩
  · obtain ⟨hregs, hsp, hmem, hconsole⟩ := pops_popped s
    exact ⟨hregs, hsp, hmem, hconsole⟩
  · obtain ⟨-, -, hhalted, hstopped, hfault, hcounter, hlast, hparams⟩ := control_popped s
    exact ⟨rfl, rfl, hhalted, hstopped, hfault, hcounter, hlast, hparams⟩

/-! ### The system instructions -/

/-- Settles O46: STOP in both modes. -/
theorem nopHaltStop : Obligations.NopHaltStop := by
  refine ⟨⟨rfl, fun _ _ => rfl⟩, ⟨rfl, fun _ _ => rfl⟩, ⟨rfl, fun _ _ => rfl⟩, fun s => ⟨rfl, rfl, fun x => ?_⟩⟩
  show Host.Outcome.next s.stop = _
  unfold State.stop
  cases s.params.stopMode <;> rfl

/-- The promotion of a pending EI counts down, and sets IME from one (R152). -/
theorem eiPromote_countdown (s : State) : s.eiPromote =
    if s.eiCount = 0 then s
    else { s with eiCount := s.eiCount - 1, ime := if s.eiCount = 1 then true else s.ime } := by
  unfold State.eiPromote
  split <;> rename_i h
  · rw [if_pos h]
  · rw [h]; rfl
  · rw [h]; rfl

theorem eiDelayCount_eq (s : State) : s.eiDelayCount = if s.params.eiDelay = .one then 1 else 2 := by
  unfold State.eiDelayCount
  cases s.params.eiDelay <;> rfl

theorem exec_ei (s : State) : exec .ei s = .next (s.setEiCount s.eiDelayCount) := rfl

/-- Settles O47: EI's delay of one is over at the next promotion, its delay of two at the second. -/
theorem diEiAndThePromotion : Obligations.DiEiAndThePromotion := by
  refine ⟨⟨rfl, fun _ _ => rfl⟩, ⟨rfl, fun _ _ => rfl⟩, fun s => ⟨rfl, ?_, eiPromote_countdown s, fun t ht hlow => ?_⟩⟩
  · rw [exec_ei, eiDelayCount_eq]
    rfl
  · rw [exec_ei, eiDelayCount_eq] at ht
    injection ht with ht
    refine ⟨fun hone => ?_, fun htwo => ?_⟩
    · rw [← ht, if_pos hone]
      exact ⟨hlow, rfl, rfl⟩
    · rw [← ht, if_neg (by rw [htwo]; decide)]
      exact ⟨hlow, hlow, rfl⟩

/-- Settles O48: each of the 11 bytes raises the fault, and no step follows one. -/
theorem illegalOpcodesRecordTheFault : Obligations.IllegalOpcodesRecordTheFault := by
  refine ⟨fun _ _ => step_of_fault, fun _ => ⟨?_, ?_, ?_, ?_, ?_, ?_, ?_, ?_, ?_, ?_, ?_⟩⟩ <;>
    exact ⟨⟨rfl, fun _ _ => rfl⟩, rfl⟩

end Sys2Proof.Machine
end
